-- ==== Sys2Proof/Word.lean ====
section
/-! DEFINITION. The byte, the index types of the block's fixed collections, and the two operations on a fixed-size collection. -/

namespace Sys2Proof

/-- One character's eight data bits (01 R1). -/
abbrev Byte := BitVec 8

/-- A station number, 0 to 31 (01 R5). -/
abbrev Station := Fin 32
/-- A rectifier's unit index, 0 to 11 (07 R132). -/
abbrev RectIx := Fin 12
/-- A battery string's unit index, 0 to 3 (04 R65). -/
abbrev StringIx := Fin 4
/-- An alarm point's number, 0 to 39 (10, 10.1). -/
abbrev PointIx := Fin 40
/-- A contact input's number, 0 to 7 (09). -/
abbrev InputIx := Fin 8
/-- A relay: 0 is A, 3 is D (09 R182). -/
abbrev RelayIx := Fin 4

/-- The collection `v` with entry `i` replaced by `x`. -/
def put {α : Type} {n : Nat} (v : Vector α n) (i : Fin n) (x : α) : Vector α n :=
  v.set i.val x i.isLt

/-- All indices of a collection of `n`, in ascending order. -/
def indices (n : Nat) : List (Fin n) := List.finRange n

end Sys2Proof
end

