-- ==== Sys2Proof/Syntax.lean ====
section
/-! DEFINITION. The commands the block takes: one constructor per row of spec/opcode_table.json. -/

namespace Sys2Proof

/-- A frame as a line's receiver sees it (01 R2, R3): every character it heard, whether one of them
had a framing error, and the plant-clock times (ms) of the first and the last character. -/
structure RxFrame where
  bytes : List Byte
  framingError : Bool
  begins : Nat
  ends : Nat
  deriving DecidableEq, Repr

/-- A well-formed REQUEST to station 0 (01 R16): the plant-clock time at which its frame ended, its
Source and Tag, and the parameter bytes that follow its code (for READ_RECORD its kind too, for
COMMAND its subcode too). For UNKNOWN_REQUEST the parameters are the whole payload. -/
structure Req where
  time : Nat
  source : Byte
  tag : Byte
  params : List Byte
  deriving DecidableEq, Repr

/-- The commands. A time operand is the plant-clock time, in ms, of an event on a line or a pin; the
timer expiries carry none, as the timer itself says when it ends (notes/assumptions/1.md). -/
inductive Instr where
  | discardFrame (f : RxFrame)
  | silenceWaitEnd
  | charactersInSilenceWait (t : Nat)
  | intrudingFrame (f : RxFrame)
  | answerStart
  | answerSent (t : Nat)
  | unknownRequest (q : Req)
  | status (q : Req)
  | collect (q : Req)
  | readRecordRectifier (q : Req)
  | readRecordString (q : Req)
  | readRecordGenset (q : Req)
  | readRecordGenRun (q : Req)
  | readRecordPlant (q : Req)
  | readRecordStation (q : Req)
  | readRecordMirror (q : Req)
  | readRecordAlarmPoint (q : Req)
  | readRecordCapture (q : Req)
  | readRecordHistory (q : Req)
  | readRecordTestResult (q : Req)
  | cursor (q : Req)
  | writeEntries (q : Req)
  | readEntries (q : Req)
  | forceBoost (q : Req)
  | startEqualize (q : Req)
  | startTest (q : Req)
  | stopTest (q : Req)
  | resyncFull (q : Req)
  | genStart (q : Req)
  | genStop (q : Req)
  | genReset (q : Req)
  | rectLockout (q : Req)
  | rectRestore (q : Req)
  | rotateNow (q : Req)
  | modeManual (q : Req)
  | modeAuto (q : Req)
  | ack (q : Req)
  | releaseCapture (q : Req)
  | setTime (q : Req)
  | saveTables (q : Req)
  | lockProfile (q : Req)
  | restart (q : Req)
  | relay (q : Req)
  | result (q : Req)
  /-- The store's write ends. `damage` is what the medium did to the image: bytes exclusive-ored onto
  the written bytes from the first on; an empty list is a good write. -/
  | saveComplete (t : Nat) (damage : List Byte)
  | silenceTimerExpiry
  | siteTimeAdvance
  | powerOn (t : Nat)
  | supplyLow (t : Nat)
  | resetPin (t : Nat)
  | restartReset
  | busArbiterChoice
  | frameSendEnd (t : Nat)
  | replyWindowExpiry
  | reportReceived (f : RxFrame)
  | confirmReceived (f : RxFrame)
  | declineReceived (f : RxFrame)
  | discardBusFrame (f : RxFrame)
  | resultHoldExpiry (tag : Byte)
  | tempHoldExpiry
  | evaluationExpiry
  | startUpHoldExpiry
  | dischargeDebounceExpiry
  | recoveryDebounceExpiry
  | boostTimerExpiry
  | taperHoldExpiry
  | equalizeIntervalExpiry
  | equalizeDurationExpiry
  | testIntervalExpiry
  | testDurationExpiry
  | disconnectDelayExpiry
  | reconnectDelayExpiry
  | mismatchTimerExpiry
  | sizingTimerExpiry
  | shedTimerExpiry
  | staggerExpiry
  | followTimerExpiry (u : RectIx)
  | recoveryTimerExpiry (u : RectIx)
  | rotationCountExpiry
  | refreshExpiry
  | runMinute (u : RectIx)
  | lowVoltageTimerExpiry
  | dischargeTimeExpiry
  | exerciseCountExpiry
  | exerciseDurationReached
  | minimumRunMet
  | crankExpiry
  | restExpiry
  | warmupExpiry
  | warmupSecondExpiry
  | cooldownExpiry
  | stopConfirmExpiry
  | retryExpiry
  /-- The contact of input `i` is sampled and reads closed or open (09 R179). -/
  | inputSample (i : InputIx) (closed : Bool)
  | raiseDelayExpiry (p : PointIx)
  | clearDelayExpiry (p : PointIx)
  deriving DecidableEq, Repr

end Sys2Proof
end

