-- ==== Sys2Proof/Decode.lean ====
section
/-! DEFINITION. The host's view of the rows' bits: no row of spec/opcode_table.json gives any. -/

namespace Sys2Proof

/-- The command that a word spells by the table's bits. The table gives no row any bits, so no word
spells a command. -/
def decodeTableWord (_nbits _w : Nat) : Option Instr := none

end Sys2Proof
end

