-- ==== Sys2Proof/Config.lean ====
section
/-! DEFINITION. The values the spec leaves open, as constants without a body: nothing can be proved of them. -/

namespace Sys2Proof.Config

/-- What a record field of `size` bytes carries for a value that does not fit it (log entry 7).
The spec states no result there (for instance 03 R46 field 6, I_bat, the sum of four 2-byte currents). -/
opaque unfit (size : Nat) (value : Int) : Nat

/-- READ_RECORD HISTORY, when the numbering has wrapped and the number sought is both below the
oldest held and above the newest (10 R194): whether the entry returned is the newest (log entry 8). -/
opaque historyAhead (sought oldest newest : Nat) : Bool

/-- Which of `codes` codes (0, 1, ...) a coded field takes when an image whose check passes holds a value
outside its set (03 R54, R56; log entry 27). -/
opaque misread (codes : Nat) (value : Int) : Nat

/-- The quotient of a division by zero, which the ranges of the tables exclude and which an image whose
check passes over values out of range can bring about (log entry 28). -/
opaque byZero (dividend : Nat) : Nat

end Sys2Proof.Config
end

