-- ==== Sys2Proof/Machine/Tables.lean ====
section
/-! DEFINITION. The thirteen tables (03, 3.2): the fields of each entry with their sizes, ranges and
defaults, and the entries as structures. -/

namespace Sys2Proof.Machine

/-- The values a table allows a field. -/
inductive Allowed where
  | range (lo hi : Int)
  /-- 0 (off), or a range. -/
  | zeroOr (lo hi : Int)
  | oneOf (values : List Int)
  deriving DecidableEq, Repr

/-- Whether a value is allowed. -/
def Allowed.ok : Allowed → Int → Bool
  | .range lo hi, v => decide (lo ≤ v) && decide (v ≤ hi)
  | .zeroOr lo hi, v => v == 0 || (decide (lo ≤ v) && decide (v ≤ hi))
  | .oneOf vs, v => vs.contains v

/-- One field of an entry: its size in bytes, whether it is signed, and its values (03 R49). -/
structure Field where
  size : Nat
  signed : Bool
  allowed : Allowed
  deriving DecidableEq, Repr

/-- An unsigned field with a range. -/
def Field.u (size : Nat) (lo hi : Int) : Field := ⟨size, false, .range lo hi⟩
/-- A signed field with a range. -/
def Field.s (size : Nat) (lo hi : Int) : Field := ⟨size, true, .range lo hi⟩
/-- An unsigned field that is 0 (off) or in a range. -/
def Field.z (size : Nat) (lo hi : Int) : Field := ⟨size, false, .zeroOr lo hi⟩
/-- An unsigned field with a set of values. -/
def Field.e (size : Nat) (values : List Int) : Field := ⟨size, false, .oneOf values⟩

/-- A yes-or-no field's value. -/
def flag (b : Bool) : Int := if b then 1 else 0

/-- The code that a coded field's value stands for: itself within its set, else a free code. No write
leaves a value outside the set, but an image can hold one (03 R54; log entry 27). -/
def coded (codes : Nat) (v : Int) : Nat := if 0 ≤ v ∧ v < codes then v.toNat else Config.misread codes v

/-- The value of a yes-or-no field. -/
def readFlag (v : Int) : Bool := coded 2 v == 1

/-! ### Enumerations of the tables -/

/-- A station's role (02, 2.1). -/
inductive Role where
  | unused | rectifier | stringMonitor | genset | foreign
  deriving DecidableEq, Repr

/-- The role's value on the line. -/
def Role.toNat : Role → Nat
  | .unused => 0 | .rectifier => 1 | .stringMonitor => 2 | .genset => 3 | .foreign => 4

/-- The role of a code. -/
def Role.ofCode : Nat → Role
  | 1 => .rectifier | 2 => .stringMonitor | 3 => .genset | 4 => .foreign | _ => .unused

/-- The role a field's value stands for. -/
def Role.ofInt (v : Int) : Role := .ofCode (coded 5 v)

/-- A relay policy (02, 2.1). -/
inductive Policy where
  | pass | clamp | block
  deriving DecidableEq, Repr

/-- The policy's value on the line. -/
def Policy.toNat : Policy → Nat
  | .pass => 0 | .clamp => 1 | .block => 2

/-- The policy of a code. -/
def Policy.ofCode : Nat → Policy
  | 0 => .pass | 1 => .clamp | _ => .block

/-- The policy a field's value stands for. -/
def Policy.ofInt (v : Int) : Policy := .ofCode (coded 3 v)

/-- A poll class (02 R26). -/
inductive PollClass where
  | every | alternate | slow
  deriving DecidableEq, Repr

/-- The class's value on the line. -/
def PollClass.toNat : PollClass → Nat
  | .every => 0 | .alternate => 1 | .slow => 2

/-- The class of a code. -/
def PollClass.ofCode : Nat → PollClass
  | 1 => .alternate | 2 => .slow | _ => .every

/-- The class a field's value stands for. -/
def PollClass.ofInt (v : Int) : PollClass := .ofCode (coded 3 v)

/-- A contact input's function (09, 9.1). -/
inductive InputFunction where
  | unused | alarm | mainsSense | genFeedback | ldFeedback | enclosure
  deriving DecidableEq, Repr

/-- The function's value on the line. -/
def InputFunction.toNat : InputFunction → Nat
  | .unused => 0 | .alarm => 1 | .mainsSense => 2 | .genFeedback => 3 | .ldFeedback => 4
  | .enclosure => 5

/-- The function of a code. -/
def InputFunction.ofCode : Nat → InputFunction
  | 1 => .alarm | 2 => .mainsSense | 3 => .genFeedback | 4 => .ldFeedback | 5 => .enclosure
  | _ => .unused

/-- The function a field's value stands for. -/
def InputFunction.ofInt (v : Int) : InputFunction := .ofCode (coded 6 v)

/-- An alarm severity (03 R46). -/
inductive Severity where
  | warning | minor | major | critical
  deriving DecidableEq, Repr

/-- The severity's value on the line; a higher value is a higher severity. -/
def Severity.toNat : Severity → Nat
  | .warning => 0 | .minor => 1 | .major => 2 | .critical => 3

/-- The severity of a code. -/
def Severity.ofCode : Nat → Severity
  | 1 => .minor | 2 => .major | 3 => .critical | _ => .warning

/-- The severity a field's value stands for. -/
def Severity.ofInt (v : Int) : Severity := .ofCode (coded 4 v)

/-- An alarm route (10, 10.1). -/
inductive Route where
  | notice | historyOnly | silent
  deriving DecidableEq, Repr

/-- The route's value on the line. -/
def Route.toNat : Route → Nat
  | .notice => 0 | .historyOnly => 1 | .silent => 2

/-- The route of a code. -/
def Route.ofCode : Nat → Route
  | 1 => .historyOnly | 2 => .silent | _ => .notice

/-- The route a field's value stands for. -/
def Route.ofInt (v : Int) : Route := .ofCode (coded 3 v)

/-! ### Entries -/

/-- A STATION_MAP entry (02, 2.1). -/
structure StationEntry where
  role : Role
  unit : Nat
  policy : Policy
  mirror : Bool
  deriving DecidableEq, Repr

/-- The fields of a STATION_MAP entry. The unit index's range depends on the role (02 R21). -/
def StationEntry.fields : List Field :=
  [.u 1 0 4, .u 1 0 255, .u 1 0 2, .u 1 0 1]

/-- A STATION_MAP entry's field values. -/
def StationEntry.toInts (x : StationEntry) : List Int :=
  [x.role.toNat, x.unit, x.policy.toNat, flag x.mirror]

/-- The STATION_MAP entry with the field values given. -/
def StationEntry.ofInts : List Int → Option StationEntry
  | [r, u, p, m] => some ⟨.ofInt r, u.toNat, .ofInt p, readFlag m⟩
  | _ => none

/-- The default entry (02 R20). -/
def StationEntry.default : StationEntry := ⟨.unused, 0, .block, false⟩

/-- A POLL_LIST slot (02 R26); station 0 is an empty slot. -/
structure PollSlot where
  station : Nat
  cls : PollClass
  deriving DecidableEq, Repr

/-- The fields of a POLL_LIST slot (02 R27). -/
def PollSlot.fields : List Field := [.u 1 0 30, .u 1 0 2]

/-- A POLL_LIST slot's field values. -/
def PollSlot.toInts (x : PollSlot) : List Int := [x.station, x.cls.toNat]

/-- The POLL_LIST slot with the field values given. -/
def PollSlot.ofInts : List Int → Option PollSlot
  | [s, c] => some ⟨s.toNat, .ofInt c⟩
  | _ => none

/-- The FIELD_TIMING entry (02, 2.8). -/
structure FieldTiming where
  replyWindow : Nat
  missLimit : Nat
  recoveryCount : Nat
  orderRetries : Nat
  resultHold : Nat
  rate : Nat
  deriving DecidableEq, Repr

/-- The fields of FIELD_TIMING. -/
def FieldTiming.fields : List Field :=
  [.u 2 10 200, .u 1 1 10, .u 1 1 10, .u 1 0 5, .u 2 5 600, .e 2 [96, 192, 384]]

/-- FIELD_TIMING's field values. -/
def FieldTiming.toInts (x : FieldTiming) : List Int :=
  [x.replyWindow, x.missLimit, x.recoveryCount, x.orderRetries, x.resultHold, x.rate]

/-- The FIELD_TIMING entry with the field values given. -/
def FieldTiming.ofInts : List Int → Option FieldTiming
  | [a, b, c, d, e, f] => some ⟨a.toNat, b.toNat, c.toNat, d.toNat, e.toNat, f.toNat⟩
  | _ => none

/-- FIELD_TIMING's defaults. -/
def FieldTiming.default : FieldTiming := ⟨30, 3, 2, 2, 30, 192⟩

/-- The PROFILE entry (05, 5.1), in the order of its fields. -/
structure Profile where
  cells : Nat
  floatCell : Nat
  boostCell : Nat
  equalizeCell : Nat
  testCell : Nat
  testFailCell : Nat
  k : Int
  tRef : Int
  clampLow : Int
  clampHigh : Int
  busMin : Nat
  busMax : Nat
  chargeRate : Nat
  taperRate : Nat
  overcharge : Nat
  highTemp : Int
  cutoffTemp : Int
  boostEntry : Nat
  boostMax : Nat
  taperHold : Nat
  equalizeMaxTemp : Int
  deriving DecidableEq, Repr

/-- The fields of PROFILE. -/
def Profile.fields : List Field :=
  [.u 1 1 60, .u 2 2000 2400, .u 2 2100 2500, .u 2 2100 2550, .u 2 1800 2200, .u 2 1700 2100,
   .s 2 (-6000) 0, .s 2 150 350, .s 2 (-200) 600, .s 2 (-200) 600,
   .u 4 10000 160000, .u 4 10000 160000, .u 1 2 40, .u 2 2 50, .u 1 0 20,
   .s 2 200 700, .s 2 250 800, .u 1 1 50, .u 1 1 48, .u 2 5 600, .s 2 0 500]

/-- PROFILE's field values. -/
def Profile.toInts (x : Profile) : List Int :=
  [x.cells, x.floatCell, x.boostCell, x.equalizeCell, x.testCell, x.testFailCell,
   x.k, x.tRef, x.clampLow, x.clampHigh, x.busMin, x.busMax, x.chargeRate, x.taperRate,
   x.overcharge, x.highTemp, x.cutoffTemp, x.boostEntry, x.boostMax, x.taperHold,
   x.equalizeMaxTemp]

/-- The PROFILE entry with the field values given. -/
def Profile.ofInts : List Int → Option Profile
  | [a, b, c, d, e, f, g, h, i, j, k, l, m, n, o, p, q, r, s, t, u] =>
    some ⟨a.toNat, b.toNat, c.toNat, d.toNat, e.toNat, f.toNat, g, h, i, j, k.toNat, l.toNat,
      m.toNat, n.toNat, o.toNat, p, q, r.toNat, s.toNat, t.toNat, u⟩
  | _ => none

/-- PROFILE's defaults. -/
def Profile.default : Profile :=
  ⟨24, 2230, 2350, 2400, 1950, 1900, -3000, 250, 0, 450, 44000, 57600, 10, 10, 3, 450, 550, 5,
    16, 60, 350⟩

/-- A STRINGS entry (04 R66). -/
structure StringsEntry where
  capacity : Nat
  eta : Nat
  gapLimit : Nat
  imbalanceLimit : Nat
  deriving DecidableEq, Repr

/-- The fields of a STRINGS entry. -/
def StringsEntry.fields : List Field := [.z 2 10 3000, .u 1 50 100, .u 2 1000 30000, .z 2 20 5000]

/-- A STRINGS entry's field values. -/
def StringsEntry.toInts (x : StringsEntry) : List Int :=
  [x.capacity, x.eta, x.gapLimit, x.imbalanceLimit]

/-- The STRINGS entry with the field values given. -/
def StringsEntry.ofInts : List Int → Option StringsEntry
  | [a, b, c, d] => some ⟨a.toNat, b.toNat, c.toNat, d.toNat⟩
  | _ => none

/-- The default STRINGS entry. -/
def StringsEntry.default : StringsEntry := ⟨200, 92, 5000, 300⟩

/-- The PLANT entry (05, 5.2), in the order of its fields. -/
structure PlantTable where
  evaluation : Nat
  dischargeThreshold : Nat
  debounce : Nat
  startUpHold : Nat
  trimDown : Nat
  trimUp : Nat
  trimMax : Nat
  voltageDeadband : Nat
  currentDeadband : Nat
  refresh : Nat
  equalizeInterval : Nat
  equalizeDuration : Nat
  equalizeOnGenerator : Bool
  testDuration : Nat
  testInterval : Nat
  testMinSoc : Nat
  startUpShortfall : Nat
  busHigh : Nat
  busLow : Nat
  busVeryLow : Nat
  deriving DecidableEq, Repr

/-- The fields of PLANT. -/
def PlantTable.fields : List Field :=
  [.u 1 1 10, .u 2 5 1000, .u 2 1 300, .u 2 10 300, .u 2 1 1000, .u 2 1 1000, .u 2 0 10000,
   .u 2 0 1000, .u 2 0 1000, .u 2 10 3600, .z 2 24 8760, .u 1 1 24, .u 1 0 1, .u 2 5 240,
   .z 2 24 8760, .u 1 50 100, .u 1 0 100, .u 4 10000 160000, .u 4 10000 160000,
   .u 4 10000 160000]

/-- PLANT's field values. -/
def PlantTable.toInts (x : PlantTable) : List Int :=
  [x.evaluation, x.dischargeThreshold, x.debounce, x.startUpHold, x.trimDown, x.trimUp, x.trimMax,
   x.voltageDeadband, x.currentDeadband, x.refresh, x.equalizeInterval, x.equalizeDuration,
   flag x.equalizeOnGenerator, x.testDuration, x.testInterval, x.testMinSoc, x.startUpShortfall,
   x.busHigh, x.busLow, x.busVeryLow]

/-- The PLANT entry with the field values given. -/
def PlantTable.ofInts : List Int → Option PlantTable
  | [a, b, c, d, e, f, g, h, i, j, k, l, m, n, o, p, q, r, s, t] =>
    some ⟨a.toNat, b.toNat, c.toNat, d.toNat, e.toNat, f.toNat, g.toNat, h.toNat, i.toNat,
      j.toNat, k.toNat, l.toNat, readFlag m, n.toNat, o.toNat, p.toNat, q.toNat, r.toNat, s.toNat,
      t.toNat⟩
  | _ => none

/-- PLANT's defaults. -/
def PlantTable.default : PlantTable :=
  ⟨2, 20, 10, 30, 100, 20, 2000, 20, 10, 60, 2160, 8, false, 30, 0, 95, 50, 58000, 47000, 44500⟩

/-- The RECTIFIER entry (07, 7.2). -/
structure RectTable where
  nMin : Nat
  redundancy : Nat
  shareHigh : Nat
  shareLow : Nat
  shedDelay : Nat
  sizingPeriod : Nat
  rotationInterval : Nat
  staggerMains : Nat
  staggerGenerator : Nat
  recoveryTime : Nat
  lockoutWindow : Nat
  followTime : Nat
  deriving DecidableEq, Repr

/-- The fields of RECTIFIER. -/
def RectTable.fields : List Field :=
  [.u 1 1 12, .u 1 0 3, .u 1 50 100, .u 1 10 90, .u 2 60 7200, .u 1 1 60, .z 2 24 8760,
   .u 1 1 60, .u 1 1 120, .u 2 10 3600, .u 1 1 168, .u 2 5 600]

/-- RECTIFIER's field values. -/
def RectTable.toInts (x : RectTable) : List Int :=
  [x.nMin, x.redundancy, x.shareHigh, x.shareLow, x.shedDelay, x.sizingPeriod, x.rotationInterval,
   x.staggerMains, x.staggerGenerator, x.recoveryTime, x.lockoutWindow, x.followTime]

/-- The RECTIFIER entry with the field values given. -/
def RectTable.ofInts : List Int → Option RectTable
  | [a, b, c, d, e, f, g, h, i, j, k, l] =>
    some ⟨a.toNat, b.toNat, c.toNat, d.toNat, e.toNat, f.toNat, g.toNat, h.toNat, i.toNat,
      j.toNat, k.toNat, l.toNat⟩
  | _ => none

/-- RECTIFIER's defaults. -/
def RectTable.default : RectTable := ⟨2, 1, 75, 50, 900, 5, 168, 2, 10, 300, 24, 30⟩

/-- The GENSET entry (08, 8.1), in the order of its fields. -/
structure GensetTable where
  fitted : Bool
  ratedOutput : Nat
  derate : Nat
  conversion : Nat
  cooldownLimit : Nat
  startVoltage : Nat
  startSoc : Nat
  stopSoc : Nat
  maxDischarge : Nat
  crankTime : Nat
  rest : Nat
  attempts : Nat
  warmup : Nat
  minimumRun : Nat
  cooldown : Nat
  stopConfirm : Nat
  retryInterval : Nat
  exerciseInterval : Nat
  exerciseDuration : Nat
  fuelLow : Nat
  fuelCritical : Nat
  deriving DecidableEq, Repr

/-- The fields of GENSET. -/
def GensetTable.fields : List Field :=
  [.u 1 0 1, .u 1 1 200, .u 1 50 100, .u 1 70 99, .u 1 0 50, .u 4 10000 160000, .z 1 5 90,
   .u 1 10 100, .z 1 1 72, .u 1 5 60, .u 1 5 120, .u 1 1 10, .u 2 10 600, .u 2 0 14400,
   .u 2 30 1800, .u 2 10 600, .z 2 300 43200, .z 2 24 8760, .u 2 300 7200, .u 1 0 100,
   .u 1 0 100]

/-- GENSET's field values. -/
def GensetTable.toInts (x : GensetTable) : List Int :=
  [flag x.fitted, x.ratedOutput, x.derate, x.conversion, x.cooldownLimit, x.startVoltage,
   x.startSoc, x.stopSoc, x.maxDischarge, x.crankTime, x.rest, x.attempts, x.warmup, x.minimumRun,
   x.cooldown, x.stopConfirm, x.retryInterval, x.exerciseInterval, x.exerciseDuration, x.fuelLow,
   x.fuelCritical]

/-- The GENSET entry with the field values given. -/
def GensetTable.ofInts : List Int → Option GensetTable
  | [a, b, c, d, e, f, g, h, i, j, k, l, m, n, o, p, q, r, s, t, u] =>
    some ⟨readFlag a, b.toNat, c.toNat, d.toNat, e.toNat, f.toNat, g.toNat, h.toNat, i.toNat, j.toNat,
      k.toNat, l.toNat, m.toNat, n.toNat, o.toNat, p.toNat, q.toNat, r.toNat, s.toNat, t.toNat,
      u.toNat⟩
  | _ => none

/-- GENSET's defaults. -/
def GensetTable.default : GensetTable :=
  ⟨false, 8, 80, 90, 10, 46000, 50, 95, 4, 20, 30, 3, 60, 1800, 120, 60, 3600, 168, 1200, 25, 10⟩

/-- The LOAD_DISCONNECT entry (06, 6.4). -/
structure LdTable where
  disconnectVoltage : Nat
  disconnectDelay : Nat
  disconnectSoc : Nat
  reconnectVoltage : Nat
  reconnectDelay : Nat
  deriving DecidableEq, Repr

/-- The fields of LOAD_DISCONNECT. -/
def LdTable.fields : List Field :=
  [.u 4 10000 160000, .u 2 1 3600, .z 1 1 50, .u 4 10000 160000, .u 2 10 3600]

/-- LOAD_DISCONNECT's field values. -/
def LdTable.toInts (x : LdTable) : List Int :=
  [x.disconnectVoltage, x.disconnectDelay, x.disconnectSoc, x.reconnectVoltage, x.reconnectDelay]

/-- The LOAD_DISCONNECT entry with the field values given. -/
def LdTable.ofInts : List Int → Option LdTable
  | [a, b, c, d, e] => some ⟨a.toNat, b.toNat, c.toNat, d.toNat, e.toNat⟩
  | _ => none

/-- LOAD_DISCONNECT's defaults. -/
def LdTable.default : LdTable := ⟨42000, 60, 10, 49000, 120⟩

/-- An INPUTS entry (09, 9.1). -/
structure InputEntry where
  function : InputFunction
  /-- Polarity: active open (yes) or active closed (no). -/
  activeOpen : Bool
  interval : Nat
  /-- Detection: EDGE (yes) or LEVEL (no). -/
  edge : Bool
  deriving DecidableEq, Repr

/-- The fields of an INPUTS entry. -/
def InputEntry.fields : List Field := [.u 1 0 5, .u 1 0 1, .e 1 [10, 20, 50, 100], .u 1 0 1]

/-- An INPUTS entry's field values. -/
def InputEntry.toInts (x : InputEntry) : List Int :=
  [x.function.toNat, flag x.activeOpen, x.interval, flag x.edge]

/-- The INPUTS entry with the field values given. -/
def InputEntry.ofInts : List Int → Option InputEntry
  | [a, b, c, d] => some ⟨.ofInt a, readFlag b, c.toNat, readFlag d⟩
  | _ => none

/-- The default INPUTS entry. -/
def InputEntry.default : InputEntry := ⟨.unused, false, 20, false⟩

/-- An ALARMS entry (10, 10.1). -/
structure AlarmEntry where
  enable : Bool
  severity : Severity
  raiseDelay : Nat
  clearDelay : Nat
  latching : Bool
  /-- Bit 0 relay A, up to bit 3 relay D. -/
  relaySet : Nat
  route : Route
  deriving DecidableEq, Repr

/-- The fields of an ALARMS entry. -/
def AlarmEntry.fields : List Field :=
  [.u 1 0 1, .u 1 0 3, .u 2 0 3600, .u 2 0 3600, .u 1 0 1, .u 1 0 15, .u 1 0 2]

/-- An ALARMS entry's field values. -/
def AlarmEntry.toInts (x : AlarmEntry) : List Int :=
  [flag x.enable, x.severity.toNat, x.raiseDelay, x.clearDelay, flag x.latching, x.relaySet,
   x.route.toNat]

/-- The ALARMS entry with the field values given. -/
def AlarmEntry.ofInts : List Int → Option AlarmEntry
  | [a, b, c, d, e, f, g] =>
    some ⟨readFlag a, .ofInt b, c.toNat, d.toNat, readFlag e, f.toNat, .ofInt g⟩
  | _ => none

/-- The default severities of points 0 to 31, in point order (10, 10.1); points 32 to 39 are MINOR. -/
def defaultSeverities : List Severity :=
  [.critical, .major, .critical, .critical, .major, .major, .minor, .major,
   .minor, .minor, .minor, .minor, .critical, .minor, .minor, .major,
   .warning, .major, .major, .warning, .minor, .major, .minor, .major,
   .warning, .warning, .major, .warning, .warning, .critical, .minor, .major]

/-- The default relay set of a severity (10 R185). -/
def defaultRelaySet : Severity → Nat
  | .critical => 1 | .major => 1 | .minor => 2 | .warning => 0

/-- The default ALARMS entry of a point (10 R185). -/
def AlarmEntry.default (p : PointIx) : AlarmEntry :=
  let sev := defaultSeverities.getD p.val .minor
  ⟨true, sev, 0, 0, false, defaultRelaySet sev, .notice⟩

/-- The SUPERVISION entry (03, 3.6). -/
structure Supervision where
  silenceTimeout : Nat
  rate : Nat
  captureThreshold : Severity
  deriving DecidableEq, Repr

/-- The fields of SUPERVISION. -/
def Supervision.fields : List Field := [.z 4 60 86400, .e 2 [96, 192, 384], .u 1 0 3]

/-- SUPERVISION's field values. -/
def Supervision.toInts (x : Supervision) : List Int :=
  [x.silenceTimeout, x.rate, x.captureThreshold.toNat]

/-- The SUPERVISION entry with the field values given. -/
def Supervision.ofInts : List Int → Option Supervision
  | [a, b, c] => some ⟨a.toNat, b.toNat, .ofInt c⟩
  | _ => none

/-- SUPERVISION's defaults. -/
def Supervision.default : Supervision := ⟨600, 96, .major⟩

/-- The RELAYS entry's field: silence-on-ack (09 R182). -/
def relayFields : List Field := [.u 1 0 1]

/-- The working tables (03, 3.2). -/
structure Tables where
  stationMap : Vector StationEntry 33
  pollList : Vector PollSlot 24
  fieldTiming : FieldTiming
  profile : Profile
  strings : Vector StringsEntry 4
  plant : PlantTable
  rectifier : RectTable
  genset : GensetTable
  loadDisconnect : LdTable
  inputs : Vector InputEntry 8
  relays : Vector Bool 4
  alarms : Vector AlarmEntry 40
  supervision : Supervision
  deriving DecidableEq, Repr

/-- Every table at its defaults. -/
def Tables.default : Tables where
  stationMap := .replicate 33 .default
  pollList := .replicate 24 ⟨0, .every⟩
  fieldTiming := .default
  profile := .default
  strings := .replicate 4 .default
  plant := .default
  rectifier := .default
  genset := .default
  loadDisconnect := .default
  inputs := .replicate 8 .default
  relays := .replicate 4 false
  alarms := .ofFn .default
  supervision := .default

/-- A table's id (03, 3.2). -/
inductive TableId where
  | stationMap | pollList | fieldTiming | profile | strings | plant | rectifier | genset
  | loadDisconnect | inputs | relays | alarms | supervision
  deriving DecidableEq, Repr

/-- The tables in the order of their ids. -/
def TableId.all : List TableId :=
  [.stationMap, .pollList, .fieldTiming, .profile, .strings, .plant, .rectifier, .genset,
   .loadDisconnect, .inputs, .relays, .alarms, .supervision]

/-- A table's number of entries. -/
def TableId.count : TableId → Nat
  | .stationMap => 33 | .pollList => 24 | .strings => 4 | .inputs => 8 | .relays => 4
  | .alarms => 40 | _ => 1

/-- The fields of a table's entries. -/
def TableId.fields : TableId → List Field
  | .stationMap => StationEntry.fields
  | .pollList => PollSlot.fields
  | .fieldTiming => FieldTiming.fields
  | .profile => Profile.fields
  | .strings => StringsEntry.fields
  | .plant => PlantTable.fields
  | .rectifier => RectTable.fields
  | .genset => GensetTable.fields
  | .loadDisconnect => LdTable.fields
  | .inputs => InputEntry.fields
  | .relays => relayFields
  | .alarms => AlarmEntry.fields
  | .supervision => Supervision.fields

/-- The fields of an entry as a write is tested against them: entry 32 of STATION_MAP takes any role, unit
index and mirror value (02 R21). -/
def TableId.fieldsAt (t : TableId) (i : Nat) : List Field :=
  if t = .stationMap ∧ i = 32 then [.u 1 0 255, .u 1 0 255, .u 1 0 2, .u 1 0 255] else t.fields

/-- A table's entry size in bytes (03 R49). -/
def TableId.entrySize (t : TableId) : Nat := (t.fields.map Field.size).sum

end Sys2Proof.Machine
end

