-- ==== Sys2Proof/Machine/State.lean ====
section
/-! DEFINITION. The block's state as plain data, the reasons a step can stop, and the state after reset. -/

namespace Sys2Proof.Machine

/-- The reasons a step can stop with a fault. There is none: the spec describes no fault that stops
the part (INVENTORY.md, Faults), and no meaning of this model faults. -/
inductive Fault where
  deriving DecidableEq, Repr

/-- The reasons a command has no meaning. -/
inductive Refusal where
  /-- Raised by exec's arm of a command not modelled yet; safe. -/
  | notModelled (mnemonic : String)
  deriving DecidableEq, Repr

/-! ### Timers and the plant clock -/

/-- An interval timer (00 Conventions, Time): stopped, or running since a plant-clock time with a
length, both in ms. -/
inductive Timer where
  | stopped
  | running (start length : Nat)
  deriving DecidableEq, Repr

/-- The plant clock and site time (03 R64). -/
structure Clock where
  now : Nat
  site : Nat
  siteSet : Bool
  secondStart : Nat
  deriving DecidableEq, Repr

/-- A site time with its time-set mark. -/
structure Stamp where
  site : Nat
  set : Bool
  deriving DecidableEq, Repr

/-- The operating mode (03 R58). -/
inductive Mode where
  | auto | manual
  deriving DecidableEq, Repr

/-! ### The supervisory port and the request unit -/

/-- The port's states (01 R14). -/
inductive PortState where
  | silenceWait | ready | receiving | answerPending | sending
  deriving DecidableEq, Repr

/-- Answer status codes (01 R17). -/
inductive Status where
  | ok | pending | busy | full | range | badEntry | locked | refusedState | guarded | noResult
  | unknown
  deriving DecidableEq, Repr

/-- An answer waiting to be sent (01 R17). -/
structure Answer where
  dest : Byte
  tag : Byte
  code : Byte
  status : Status
  content : List Byte
  deriving DecidableEq, Repr

/-- The supervisory port (01, 1.6). -/
structure Port where
  state : PortState
  linkFault : Bool
  rxBuffer : List Byte
  rate : Nat
  answer : Option Answer
  sending : Option (List Byte)
  quietFrom : Nat
  deriving DecidableEq, Repr

/-- The four reset causes (03, 3.8). -/
inductive Cause where
  | powerOn | supplyLow | resetPin | restart
  deriving DecidableEq, Repr

/-- The reset-cause set (03 R61). -/
structure CauseSet where
  powerOn : Bool
  supplyLow : Bool
  resetPin : Bool
  restart : Bool
  deriving DecidableEq, Repr

/-- The table cursor (03 R50). -/
structure Cursor where
  table : TableId
  index : Nat
  deriving DecidableEq, Repr

/-- The request unit, less mode and site time (03). -/
structure RequestUnit where
  cursor : Cursor
  lock : Bool
  silence : Timer
  silent : Bool
  causes : CauseSet
  unsaved : Bool
  restartDue : Bool
  deriving DecidableEq, Repr

/-- The store state (03 R54). -/
inductive StoreState where
  | valid | invalid | saving
  deriving DecidableEq, Repr

/-- The table store (03, 3.3): its state and its image (entries, then the two check bytes). The
STORE_INVALID condition last handed is held by its alarm point. -/
structure Store where
  state : StoreState
  image : List Byte
  deriving DecidableEq, Repr

/-! ### Contact inputs and outputs -/

/-- One contact input (09). -/
structure Input where
  streakLevel : Bool
  streakCount : Nat
  accepted : Bool
  samples : Nat
  lastChange : Option Stamp
  nextSample : Nat
  deriving DecidableEq, Repr

/-- What every block reads and no hand-on changes: the working tables, the clock, the mode and the
contact inputs. -/
structure Env where
  tables : Tables
  clock : Clock
  mode : Mode
  inputs : Vector Input 8
  deriving DecidableEq, Repr

/-- The outputs (09): relays energized or not, LD asserted, GEN RUN energized. -/
structure Outputs where
  relays : Vector Bool 4
  ld : Bool
  genRun : Bool
  deriving DecidableEq, Repr

/-! ### Reports and orders -/

/-- A rectifier report's fields (01 R7); fault code 0 is healthy. -/
structure RectReport where
  voltage : Nat
  current : Nat
  rated : Nat
  temperature : Int
  acOk : Bool
  outputOn : Bool
  limiting : Bool
  fault : Nat
  deriving DecidableEq, Repr

/-- A string monitor report's fields (01 R8). -/
structure StringReport where
  voltage : Nat
  current : Int
  temperature : Int
  validFlag : Bool
  blocks : List Nat
  deriving DecidableEq, Repr

/-- The engine status of a genset report (01 R9). -/
inductive EngineStatus where
  | stopped | cranking | running | fault
  deriving DecidableEq, Repr

/-- A genset report's fields (01 R9); fault code 0 is none. -/
structure GensetReport where
  engine : EngineStatus
  available : Bool
  fuel : Nat
  fault : Nat
  hours : Nat
  deriving DecidableEq, Repr

/-- ENGINE actions (01 R11). -/
inductive EngineAction where
  | start | stop | reset
  deriving DecidableEq, Repr

/-- The part's own orders with their parameters (01 R11). -/
inductive OrderBody where
  | setOutput (voltage limit : Nat)
  | setState (active : Bool)
  | engine (action : EngineAction)
  deriving DecidableEq, Repr

/-- The unit that composed an order. -/
inductive Composer where
  | rect (u : RectIx)
  | gen
  deriving DecidableEq, Repr

/-- A queued order (02, 2.5). -/
structure Order where
  station : Station
  body : OrderBody
  attempts : Nat
  composer : Composer
  deriving DecidableEq, Repr

/-! ### Plant bus engine -/

/-- Link status (02 R23). -/
inductive LinkStatus where
  | unmapped | discovering | reporting | lost
  deriving DecidableEq, Repr

/-- A link record (02 R23). -/
structure Link where
  status : LinkStatus
  misses : Nat
  goods : Nat
  lastReply : Option Nat
  deriving DecidableEq, Repr

/-- A mirror slot's contents (02 R30). -/
structure Mirror where
  payload : List Byte
  time : Nat
  deriving DecidableEq, Repr

/-- The kind of a relayed exchange or of a transaction's frame. -/
inductive BusKind where
  | poll | order
  deriving DecidableEq, Repr

/-- An exchange's outcome (02 R36). -/
inductive ExOutcome where
  | answered | noAnswer | declined | blocked
  deriving DecidableEq, Repr

/-- An exchange's state with what it holds in DONE (02 R36, R42). -/
inductive ExState where
  | queued
  | sent
  | done (outcome : ExOutcome) (reply : Option (List Byte)) (time : Nat) (hold : Timer)
  deriving DecidableEq, Repr

/-- An open exchange record (02 R36). The pool lists the open records in take order. -/
structure Exchange where
  tag : Byte
  target : Station
  kind : BusKind
  payload : List Byte
  state : ExState
  deriving DecidableEq, Repr

/-- What the transaction in progress carries. -/
inductive Carried where
  | poll
  | order (o : Order)
  | exchange (tag : Byte)
  deriving DecidableEq, Repr

/-- The transaction in progress (01 R13). `window` is stopped until the frame has been sent;
`voided` marks a change of the station's map entry (02 R22), `noRetry` a change of mode (02 R34). -/
structure Txn where
  station : Station
  kind : BusKind
  tag : Byte
  payload : List Byte
  carried : Carried
  window : Timer
  voided : Bool
  noRetry : Bool
  deriving DecidableEq, Repr

/-- The plant bus engine's line side (02, less the order queue and the link records). -/
structure Line where
  rate : Nat
  rxBuffer : List Byte
  sent : Option (List Byte)
  tagCount : Nat
  txn : Option Txn
  pollPos : Nat
  cycle : Nat
  arbCount : Nat
  pool : List Exchange
  mirrors : Vector (Option Mirror) 32
  quietFrom : Nat
  deriving DecidableEq, Repr

/-! ### String accounting -/

/-- A unit record's status for strings and the genset (04 R65, 08 R158). -/
inductive UnitStatus where
  | absent | discovering | reporting | lost
  deriving DecidableEq, Repr

/-- A string record (04 R65), less the fields computed from the tables. -/
structure StringRec where
  status : UnitStatus
  voltage : Nat
  current : Int
  temperature : Int
  tempValid : Bool
  blocks : List Nat
  spread : Nat
  imbalance : Bool
  shortfall : Int
  residue : Int
  estimated : Bool
  soc : Nat
  tPrev : Option Nat
  deriving DecidableEq, Repr

/-- The source of the compensation temperature (04 R77). -/
inductive TempSource where
  | live | holding | fallback
  deriving DecidableEq, Repr

/-- The plant quantities of 04, 4.4 and 4.5. -/
structure Battery where
  weakestSoc : Nat
  weakestIndex : Option StringIx
  iBat : Int
  iChg : Int
  busVoltage : Option Nat
  tComp : Int
  tSource : TempSource
  hold : Timer
  deriving DecidableEq, Repr

/-! ### Charge controller -/

/-- Plant states (05, 5.4). -/
inductive PlantState where
  | startUp | float | discharge | boost | equalize | test
  deriving DecidableEq, Repr

/-- Supply sources (05 R91). -/
inductive Source where
  | none | mains | generator
  deriving DecidableEq, Repr

/-- The charge controller (05). -/
structure Charge where
  state : PlantState
  stateSince : Nat
  mains : Bool
  source : Source
  overTemp : Bool
  highTemp : Bool
  equalizePending : Bool
  boostInhibit : Bool
  boostTimeout : Bool
  evaluation : Timer
  startHold : Timer
  dischargeDebounce : Timer
  recoveryDebounce : Timer
  boost : Timer
  taper : Timer
  equalizeDuration : Timer
  equalizeCount : Nat
  trim : Int
  base : Int
  setpoint : Nat
  tUsed : Int
  compensation : Int
  iLim : Nat
  taperCurrent : Nat
  stateChanged : Bool
  deriving DecidableEq, Repr

/-! ### Battery test and load disconnect -/

/-- Test outcomes (06 R124). -/
inductive TestOutcome where
  | none | running | passed | failed | abortedMains | abortedGenerator | abortedCommand
  | abortedAlarm
  deriving DecidableEq, Repr

/-- Test causes (06 R124). -/
inductive TestCause where
  | none | command | schedule
  deriving DecidableEq, Repr

/-- The battery test (06, 6.1 to 6.3). -/
structure Test where
  outcome : TestOutcome
  cause : TestCause
  stamp : Stamp
  started : Nat
  seconds : Nat
  removed : Int
  minBus : Option Nat
  voltage : Nat
  threshold : Nat
  duration : Timer
  count : Nat
  pending : Bool
  failed : Bool
  deriving DecidableEq, Repr

/-- Load-disconnect states (06 R127). -/
inductive LdState where
  | connected | disconnectPending | disconnected | reconnectPending
  deriving DecidableEq, Repr

/-- Load disconnect (06, 6.4 and 6.5). -/
structure LoadDisconnect where
  state : LdState
  disconnect : Timer
  reconnect : Timer
  mismatchTimer : Timer
  mismatch : Bool
  deriving DecidableEq, Repr

/-! ### Rectifier duty unit -/

/-- Rectifier statuses (07 R132). -/
inductive RectStatus where
  | absent | discovering | active | walkingIn | standby | faulted | lost | lockedOut
  deriving DecidableEq, Repr

/-- The last fault cause (07 R132). -/
inductive FaultCause where
  | none | reported | declined | notFollowing
  deriving DecidableEq, Repr

/-- A rectifier record (07 R132), less its station. The fault code is the last report's, present when
not 0, and is kept with the report. -/
structure RectRec where
  status : RectStatus
  report : Option RectReport
  commanded : Option Bool
  composed : Option (Nat × Nat)
  decline : Option Nat
  lastCause : FaultCause
  history : List Nat
  follow : Timer
  recovery : Timer
  minutes : Nat
  carry : Nat
  deriving DecidableEq, Repr

/-- The rectifier duty unit (07). -/
structure RectUnit where
  records : Vector RectRec 12
  duty : List RectIx
  out : List RectIx
  walkIn : List RectIx
  target : Nat
  sizing : Timer
  shed : Timer
  shedDue : Bool
  stagger : Timer
  /-- Whether the stagger timer was last started with the interval for mains (07 R136, R146). -/
  staggerMains : Bool
  refresh : Timer
  rotationCount : Nat
  rotationPending : Bool
  inFlight : Option RectIx
  shortCapacity : Bool
  deriving DecidableEq, Repr

/-! ### Generator run unit -/

/-- Generator run states (08, 8.4). -/
inductive RunState where
  | off | cranking | rest | warmup | onLoad | cooldown | stopping | failed | lockedOut | disabled
  deriving DecidableEq, Repr

/-- Failure causes (08 R170). -/
inductive GenCause where
  | none | start | run | stop
  deriving DecidableEq, Repr

/-- The start-reason set (08, 8.3). -/
structure Reasons where
  lowVoltage : Bool
  lowSoc : Bool
  dischargeTime : Bool
  exercise : Bool
  manual : Bool
  deriving DecidableEq, Repr

/-- The generator run unit (08). The fault code is the last report's, present when not 0. -/
structure GenUnit where
  status : UnitStatus
  report : Option (GensetReport × Nat)
  decline : Option Nat
  reasons : Reasons
  lowVoltage : Timer
  dischargeTime : Timer
  exerciseCount : Nat
  exerciseDue : Bool
  run : RunState
  since : Nat
  attempts : Nat
  cycleLimit : Nat
  crank : Timer
  rest : Timer
  warmup : Timer
  warmupSecond : Timer
  cooldown : Timer
  stopConfirm : Timer
  retry : Timer
  /-- Start of the run time while it runs. -/
  runStart : Option Nat
  /-- The run time at which it stopped, ms. -/
  runTime : Nat
  /-- Whether the present run has entered ON_LOAD. -/
  loaded : Bool
  startFailed : Bool
  engineFailure : Bool
  failedSinceRun : Bool
  lastCause : GenCause
  retryDue : Bool
  resetOutstanding : Bool
  mainsMark : Bool
  /-- An ENGINE order dropped unanswered in the present run state (08 R159, R172). -/
  dropped : Option EngineAction
  fuelLow : Bool
  fuelCritical : Bool
  allowance : Option Nat
  deriving DecidableEq, Repr

/-! ### Alarm unit -/

/-- A point's state (10 R187). -/
inductive PointState where
  | idle | raising | active | clearing | held
  deriving DecidableEq, Repr

/-- An alarm point (10). -/
structure Point where
  condition : Bool
  state : PointState
  acked : Bool
  delay : Timer
  raiseTime : Option Nat
  deriving DecidableEq, Repr

/-- Notice kinds (10 R190). -/
inductive NoticeKind where
  | raise | clear | transient | repeat
  deriving DecidableEq, Repr

/-- A queued notice (10 R190). -/
structure Notice where
  point : PointIx
  kind : NoticeKind
  severity : Severity
  stamp : Stamp
  bus : Option Nat
  plant : PlantState
  deriving DecidableEq, Repr

/-- A history event (10 R193). -/
inductive HistoryEvent where
  | raise | clear | ack
  | restart (cause : Cause)
  deriving DecidableEq, Repr

/-- A history entry (10 R193). -/
structure HistoryEntry where
  seq : Nat
  stamp : Stamp
  point : Option PointIx
  event : HistoryEvent
  deriving DecidableEq, Repr

/-- The fault capture's contents (10 R195). -/
structure Capture where
  point : PointIx
  severity : Severity
  stamp : Stamp
  plant : PlantState
  source : Source
  bus : Option Nat
  soc : Nat
  run : RunState
  activeRects : Nat
  moreFaults : Bool
  deriving DecidableEq, Repr

/-- The alarm unit (10). -/
structure Alarms where
  points : Vector Point 40
  notices : List Notice
  overflow : Bool
  history : List HistoryEntry
  nextSeq : Nat
  capture : Option Capture
  deriving DecidableEq, Repr

/-! ### Hand-ons between blocks -/

/-- The timers that the blocks hold, by name. -/
inductive TimerId where
  | evaluation | startHold | dischargeDebounce | recoveryDebounce | boost | taper
  | equalizeDuration | tempHold | testDuration | disconnect | reconnect | mismatch
  | sizing | shed | stagger | refresh | lowVoltage | dischargeTime | crank | rest | warmup
  | warmupSecond | cooldown | stopConfirm | retry
  | follow (u : RectIx)
  | recovery (u : RectIx)
  | delay (p : PointIx)
  deriving DecidableEq, Repr

/-- The plant bus engine's notices of a unit (02 R22, R25, R44). -/
inductive UnitNotice where
  | discovering | absent | reporting | lost
  deriving DecidableEq, Repr

/-- A hand-on from one block to another inside a step, named for what its receiver does. -/
inductive Signal where
  -- plant bus engine
  | linkStatus (st : Station) (new : LinkStatus)
  | fieldBus
  -- string accounting
  | stringReport (i : StringIx) (r : StringReport) (t : Nat)
  | stringNotice (i : StringIx) (n : UnitNotice)
  | recompute
  | busVoltage
  | resync
  -- charge controller
  | workSource
  | examine
  | workSetpoint
  | evaluationTail
  | taperEnd
  -- battery test and load disconnect
  | testCharge (change : Int)
  | testVoltage
  | testSource
  | testRun
  | testAbort (o : TestOutcome)
  | scheduledTest
  | ldExam
  | ldCompare
  -- rectifier duty unit
  | rectReport (u : RectIx) (r : RectReport)
  | rectNotice (u : RectIx) (n : UnitNotice)
  | rectSource (old new : Source)
  | rectPlant (old new : PlantState)
  | rectRun
  | rectMode
  | refill (wasActive : Bool)
  | floor
  | sizingStep
  | reconcile
  | rotationExam
  | compose (forced : List RectIx)
  | snooped (u : RectIx) (active : Bool)
  -- generator run unit
  | gensetReport (r : GensetReport) (t : Nat)
  | engineStatus (r : GensetReport)
  | reofferEngine (r : GensetReport)
  | gensetNotice (n : UnitNotice)
  | genSource (old new : Source)
  | genPlant (old new : PlantState)
  | reasonExam
  | exerciseCheck
  | exerciseReached
  | actOnReasons
  | indication
  | workAllowance
  | fuel
  | resetEnded
  -- orders' ends
  | orderConfirmed (o : Order)
  | orderDeclined (o : Order) (reason : Nat)
  | orderDropped (o : Order)
  -- conditions, worked out when they are handed
  | stringConds
  | chargeConds
  | testConds
  | rectConds
  | genConds
  | busConds
  | cond (p : PointIx) (b : Bool)
  | momentary (p : PointIx)
  -- a timer that a table write finds expired
  | expired (id : TimerId)
  deriving DecidableEq, Repr

/-- What the blocks hold and hand on to one another. -/
structure Plant where
  links : Vector Link 32
  queue : List Order
  strings : Vector StringRec 4
  battery : Battery
  charge : Charge
  test : Test
  ld : LoadDisconnect
  rect : RectUnit
  gen : GenUnit
  alarms : Alarms
  outputs : Outputs
  agenda : List Signal
  deriving DecidableEq, Repr

/-- The whole state of the block. -/
structure State where
  pending : List Instr
  port : Port
  request : RequestUnit
  store : Store
  env : Env
  line : Line
  plant : Plant
  deriving DecidableEq, Repr

/-! ### Reset -/

/-- A rectifier record right after a power-on with no station named (07 R156). -/
def RectRec.absent : RectRec :=
  ⟨.absent, none, none, none, none, .none, [], .stopped, .stopped, 0, 0⟩

/-- A string record right after a power-on on the defaults: fitted, with no station (04 R84). -/
def StringRec.absent : StringRec :=
  ⟨.absent, 0, 0, 0, false, [], 0, false, 100000, 0, true, 50, none⟩

/-- A point in IDLE (10 R197). -/
def Point.idle : Point := ⟨false, .idle, false, .stopped, none⟩

/-- A point raised at site time 0 (10 R187). -/
def Point.raisedAtStart : Point := ⟨true, .active, false, .stopped, some 0⟩

/-- The stamp of site time 0, not set (03 R64). -/
def Stamp.zero : Stamp := ⟨0, false⟩

/-- The raise notice of a point at the power-on (10 R190). -/
def Notice.atStart (p : PointIx) (sev : Severity) : Notice := ⟨p, .raise, sev, .zero, none, .startUp⟩

/-- The machine right after a POWER_ON reset at plant-clock time 0 with no image saved: the tables are at
their defaults, and STORE_INVALID and TABLES_UNSAVED have been raised (03 R56, R61, R63; 10 R197; log
entries 3 to 6 and 12). -/
def State.reset : State where
  pending := []
  port := ⟨.silenceWait, false, [], 96, none, none, 0⟩
  request :=
    { cursor := ⟨.stationMap, 0⟩, lock := false, silence := .running 0 600000, silent := false
      causes := ⟨true, false, false, false⟩, unsaved := true, restartDue := false }
  store := ⟨.invalid, []⟩
  env :=
    { tables := .default
      clock := ⟨0, 0, false, 0⟩
      mode := .auto
      inputs := .replicate 8 ⟨false, 0, false, 0, none, 20⟩ }
  line :=
    { rate := 192, rxBuffer := [], sent := none, tagCount := 0, txn := none, pollPos := 0, cycle := 0
      arbCount := 0, pool := [], mirrors := .replicate 32 none, quietFrom := 0 }
  plant :=
    { links := .replicate 32 ⟨.unmapped, 0, 0, none⟩
      queue := []
      strings := .replicate 4 .absent
      battery :=
        { weakestSoc := 50, weakestIndex := none, iBat := 0, iChg := 0, busVoltage := none
          tComp := 300, tSource := .holding, hold := .running 0 600000 }
      charge :=
        { state := .startUp, stateSince := 0, mains := false, source := .none
          overTemp := false, highTemp := false
          equalizePending := false, boostInhibit := false, boostTimeout := false
          evaluation := .running 0 2000, startHold := .running 0 30000
          dischargeDebounce := .stopped, recoveryDebounce := .stopped
          boost := .stopped, taper := .stopped, equalizeDuration := .stopped
          equalizeCount := 0, trim := 0
          base := 53160, setpoint := 53160, tUsed := 300, compensation := -15000
          iLim := 0, taperCurrent := 0, stateChanged := false }
      test := ⟨.none, .none, .zero, 0, 0, 0, none, 0, 0, .stopped, 0, false, false⟩
      ld := ⟨.connected, .stopped, .stopped, .stopped, false⟩
      rect :=
        { records := .replicate 12 .absent, duty := [], out := [], walkIn := [], target := 0
          sizing := .stopped, shed := .stopped, shedDue := false, stagger := .stopped, staggerMains := false
          refresh := .stopped, rotationCount := 0, rotationPending := false, inFlight := none
          shortCapacity := false }
      gen :=
        { status := .absent, report := none, decline := none
          reasons := ⟨false, false, false, false, false⟩
          lowVoltage := .stopped, dischargeTime := .stopped
          exerciseCount := 0, exerciseDue := false
          run := .disabled, since := 0, attempts := 0, cycleLimit := 0
          crank := .stopped, rest := .stopped, warmup := .stopped, warmupSecond := .stopped
          cooldown := .stopped, stopConfirm := .stopped, retry := .stopped
          runStart := none, runTime := 0, loaded := false
          startFailed := false, engineFailure := false, failedSinceRun := false, lastCause := .none
          retryDue := false, resetOutstanding := false, mainsMark := false, dropped := none
          fuelLow := false, fuelCritical := false, allowance := none }
      alarms :=
        { points := ((Vector.replicate 40 Point.idle).set 26 .raisedAtStart).set 27 .raisedAtStart
          notices := [.atStart 26 .major, .atStart 27 .warning]
          overflow := false
          history :=
            [⟨1, .zero, none, .restart .powerOn⟩, ⟨2, .zero, some 26, .raise⟩,
              ⟨3, .zero, some 27, .raise⟩]
          nextSeq := 4
          capture := some ⟨26, .major, .zero, .startUp, .none, none, 50, .disabled, 0, false⟩ }
      outputs := ⟨.replicate 4 false, false, false⟩
      agenda := [] }

end Sys2Proof.Machine
end

