-- ==== Sys2Proof/Machine/Flags.lean ====
section
/-! DEFINITION. Flag bytes and enumeration codes of the records (03 R46 and the record tables). -/

namespace Sys2Proof.Machine

/-- A flag byte's value from its bits, bit 0 first. -/
def bits : List Bool → Nat
  | [] => 0
  | b :: bs => (if b then 1 else 0) + 2 * bits bs

/-- Answer status codes (01 R17). -/
def Status.toNat : Status → Nat
  | .ok => 0 | .pending => 1 | .busy => 2 | .full => 3 | .range => 4 | .badEntry => 5
  | .locked => 6 | .refusedState => 7 | .guarded => 8 | .noResult => 9 | .unknown => 10

/-- Plant state codes (03 R46). -/
def PlantState.toNat : PlantState → Nat
  | .startUp => 0 | .float => 1 | .discharge => 2 | .boost => 3 | .equalize => 4 | .test => 5

/-- Mode codes (03 R46). -/
def Mode.toNat : Mode → Nat
  | .auto => 0 | .manual => 1

/-- Source codes (03 R46). -/
def Source.toNat : Source → Nat
  | .none => 0 | .mains => 1 | .generator => 2

/-- Generator run state codes (03 R46). -/
def RunState.toNat : RunState → Nat
  | .off => 0 | .cranking => 1 | .rest => 2 | .warmup => 3 | .onLoad => 4 | .cooldown => 5
  | .stopping => 6 | .failed => 7 | .lockedOut => 8 | .disabled => 9

/-- Load-disconnect state codes (03 R46). -/
def LdState.toNat : LdState → Nat
  | .connected => 0 | .disconnectPending => 1 | .disconnected => 2 | .reconnectPending => 3

/-- Store state codes (03 R46). -/
def StoreState.toNat : StoreState → Nat
  | .valid => 0 | .invalid => 1 | .saving => 2

/-- Link status codes, in the order of 02 R23's list (log entry 25). -/
def LinkStatus.toNat : LinkStatus → Nat
  | .unmapped => 0 | .discovering => 1 | .reporting => 2 | .lost => 3

/-- String and genset status codes (04 R83, 08 R176). -/
def UnitStatus.toNat : UnitStatus → Nat
  | .absent => 0 | .discovering => 1 | .reporting => 2 | .lost => 3

/-- Rectifier status codes (07 R155). -/
def RectStatus.toNat : RectStatus → Nat
  | .absent => 0 | .discovering => 1 | .active => 2 | .walkingIn => 3 | .standby => 4
  | .faulted => 5 | .lost => 6 | .lockedOut => 7

/-- Rectifier fault cause codes (07 R155). -/
def FaultCause.toNat : FaultCause → Nat
  | .none => 0 | .reported => 1 | .declined => 2 | .notFollowing => 3

/-- Generator failure cause codes (08 R176). -/
def GenCause.toNat : GenCause → Nat
  | .none => 0 | .start => 1 | .run => 2 | .stop => 3

/-- Engine status codes (01 R9). -/
def EngineStatus.toNat : EngineStatus → Nat
  | .stopped => 0 | .cranking => 1 | .running => 2 | .fault => 3

/-- The engine status a value names (01 R9). -/
def EngineStatus.ofNat? : Nat → Option EngineStatus
  | 0 => some .stopped | 1 => some .cranking | 2 => some .running | 3 => some .fault | _ => none

/-- Compensation temperature source codes (05 R113). -/
def TempSource.toNat : TempSource → Nat
  | .live => 0 | .holding => 1 | .fallback => 2

/-- Test outcome codes (06 R124). -/
def TestOutcome.toNat : TestOutcome → Nat
  | .none => 0 | .running => 1 | .passed => 2 | .failed => 3 | .abortedMains => 4
  | .abortedGenerator => 5 | .abortedCommand => 6 | .abortedAlarm => 7

/-- Test cause codes (06 R124). -/
def TestCause.toNat : TestCause → Nat
  | .none => 0 | .command => 1 | .schedule => 2

/-- Exchange outcome codes (02 R36). -/
def ExOutcome.toNat : ExOutcome → Nat
  | .answered => 0 | .noAnswer => 1 | .declined => 2 | .blocked => 3

/-- Notice kind codes (10 R192). -/
def NoticeKind.toNat : NoticeKind → Nat
  | .raise => 0 | .clear => 1 | .transient => 2 | .repeat => 3

/-- History event codes (10 R194). -/
def HistoryEvent.toNat : HistoryEvent → Nat
  | .raise => 0 | .clear => 1 | .ack => 2 | .restart _ => 3

/-- Reset cause codes (10 R194). -/
def Cause.toNat : Cause → Nat
  | .powerOn => 1 | .supplyLow => 2 | .resetPin => 3 | .restart => 4

/-- A history event's cause byte (10 R194). -/
def HistoryEvent.causeNat : HistoryEvent → Nat
  | .restart c => c.toNat
  | _ => 0

/-- Point state codes (10 R196). -/
def PointState.toNat : PointState → Nat
  | .idle => 0 | .raising => 1 | .active => 2 | .clearing => 3 | .held => 4

/-- The reset-cause byte (03 R46 field 20). -/
def CauseSet.toNat (c : CauseSet) : Nat := bits [c.powerOn, c.supplyLow, c.resetPin, c.restart]

/-- The start-reason byte (08 R176). -/
def Reasons.toNat (r : Reasons) : Nat :=
  bits [r.lowVoltage, r.lowSoc, r.dischargeTime, r.exercise, r.manual]

end Sys2Proof.Machine
end

