-- ==== Sys2Proof/Machine/Operands.lean ====
section
/-! DEFINITION. Byte order and field forms: how integers travel in frames, records and table entries. -/

namespace Sys2Proof.Machine

/-- The low `size` bytes of `v`, most significant first (00, Byte order). -/
def be : Nat → Nat → List Byte
  | 0, _ => []
  | n + 1, v => BitVec.ofNat 8 (v / 256 ^ n) :: be n v

/-- The unsigned value of bytes given most significant first. -/
def beVal (bs : List Byte) : Nat := bs.foldl (fun a b => a * 256 + b.toNat) 0

/-- The two's complement value of `v` in `size` bytes (03 R49). -/
def twos (size : Nat) (v : Int) : Nat := (v % (256 ^ size : Nat)).toNat

/-- The signed value of an unsigned value of `size` bytes. -/
def ofTwos (size : Nat) (v : Nat) : Int :=
  if v < 256 ^ size / 2 then v else (v : Int) - (256 ^ size : Nat)

/-- An unsigned record field; a value that does not fit gives a free value (log entry 7). -/
def recU (size : Nat) (v : Nat) : List Byte :=
  if v < 256 ^ size then be size v else be size (Config.unfit size v)

/-- A signed record field; a value that does not fit gives a free value (log entry 7). -/
def recS (size : Nat) (v : Int) : List Byte :=
  if -(256 ^ size / 2 : Nat) ≤ v ∧ v < (256 ^ size / 2 : Nat) then be size (twos size v)
  else be size (Config.unfit size v)

/-- A field's value as it stands in an entry's bytes. -/
def Field.read (f : Field) (bs : List Byte) : Int :=
  if f.signed then ofTwos f.size (beVal bs) else beVal bs

/-- A field's bytes in an entry. -/
def Field.write (f : Field) (v : Int) : List Byte := be f.size (twos f.size v)

/-- The field values of an entry's bytes, in the order its table lists them (03 R49). -/
def readFields : List Field → List Byte → List Int
  | [], _ => []
  | f :: fs, bs => f.read (bs.take f.size) :: readFields fs (bs.drop f.size)

/-- An entry's bytes. -/
def writeFields : List Field → List Int → List Byte
  | f :: fs, v :: vs => f.write v ++ writeFields fs vs
  | _, _ => []

/-- Whether every field lies in the values its table gives (03 R49). -/
def fieldsOk : List Field → List Int → Bool
  | [], [] => true
  | f :: fs, v :: vs => f.allowed.ok v && fieldsOk fs vs
  | _, _ => false

/-- Bytes in pieces of one entry size. -/
def pieces (size : Nat) : Nat → List Byte → List (List Byte)
  | 0, _ => []
  | k + 1, bs => bs.take size :: pieces size k (bs.drop size)

end Sys2Proof.Machine
end

