-- ==== Sys2Proof/Machine/Frames.lean ====
section
/-! DEFINITION. The plant frame, its check, and the report and order payloads (01, 1.2 to 1.4). -/

namespace Sys2Proof.Machine

/-- One shift of the CRC register (01 R4). -/
def crcShift (r : Nat) : Nat :=
  let x := r * 2
  if 65536 ≤ x then Nat.xor (x - 65536) 0x1021 else x

/-- The CRC register after one more byte (01 R4). -/
def crcByte (r : Nat) (b : Byte) : Nat :=
  crcShift (crcShift (crcShift (crcShift (crcShift (crcShift (crcShift (crcShift
    (Nat.xor r (b.toNat * 256)))))))))

/-- The check over bytes (01 R4): polynomial 0x1021, start 0xFFFF, no reflection, no inversion. -/
def crc16 (bs : List Byte) : Nat := bs.foldl crcByte 0xFFFF

/-- A well-formed frame's fields (01 R3). -/
structure Frame where
  dest : Byte
  source : Byte
  kind : Byte
  tag : Byte
  payload : List Byte
  deriving DecidableEq, Repr

/-- Kind values (01 R6). -/
def kindPoll : Byte := 0x10
/-- REPORT. -/
def kindReport : Byte := 0x11
/-- ORDER. -/
def kindOrder : Byte := 0x20
/-- CONFIRM. -/
def kindConfirm : Byte := 0x21
/-- DECLINE. -/
def kindDecline : Byte := 0x22
/-- REQUEST. -/
def kindRequest : Byte := 0x30
/-- ANSWER. -/
def kindAnswer : Byte := 0x31

/-- The Kind value of a transaction's frame. -/
def BusKind.byte : BusKind → Byte
  | .poll => kindPoll
  | .order => kindOrder

/-- The bytes the check covers: Destination through the last payload byte (01 R4). -/
def Frame.covered (f : Frame) : List Byte :=
  [f.dest, f.source, f.kind, f.tag, BitVec.ofNat 8 f.payload.length] ++ f.payload

/-- The characters of a frame as sent (01 R3). -/
def Frame.encode (f : Frame) : List Byte := 0xC3 :: (f.covered ++ be 2 (crc16 f.covered))

/-- The frame that received characters carry, when they are well-formed (01 R3). -/
def parseFrame (rx : RxFrame) : Option Frame :=
  if rx.framingError || decide (rx.bytes.length < 8) || decide (72 < rx.bytes.length) then none
  else
    match rx.bytes with
    | start :: d :: s :: k :: t :: len :: rest =>
      if start == 0xC3 && decide (len.toNat ≤ 64) && rest.length == len.toNat + 2 then
        let f : Frame := ⟨d, s, k, t, rest.take len.toNat⟩
        if beVal (rest.drop len.toNat) == crc16 f.covered then some f else none
      else none
    | _ => none

/-- The characters a receiver stores: no more than 72 (01 R2). -/
def stored (bs : List Byte) : List Byte := bs.take 72

/-- Whether a byte is a station's number (01 R3). -/
def isStation (b : Byte) : Bool := decide (b.toNat ≤ 31)

/-- A frame that the supervisory port accepts as a request (01 R3, R5, R16; log entry 33). -/
def Frame.isRequest (f : Frame) : Bool := f.dest == 0 && f.kind == kindRequest && isStation f.source

/-- Whether the port accepts a received frame as a request. -/
def accepted (rx : RxFrame) : Bool :=
  match parseFrame rx with
  | some f => f.isRequest
  | none => false

/-- Whether the port discards a received frame with the link-fault flag set (01 R15). -/
def discards (rx : RxFrame) : Bool :=
  match parseFrame rx with
  | some f => !(f.dest == 0 && f.kind == kindRequest)
  | none => true

/-! ### Reports -/

/-- The fields of a rectifier REPORT, when it fits (01 R7, R10). -/
def readRectReport (p : List Byte) : Option RectReport :=
  if p.length == 12 then
    let rated := beVal ((p.drop 6).take 2)
    let cond := beVal ((p.drop 10).take 1)
    if rated == 0 then none
    else some {
      voltage := beVal (p.take 4)
      current := beVal ((p.drop 4).take 2)
      rated := rated
      temperature := ofTwos 2 (beVal ((p.drop 8).take 2))
      acOk := cond.testBit 0
      outputOn := cond.testBit 1
      limiting := cond.testBit 2
      fault := beVal ((p.drop 11).take 1) }
  else none

/-- The block voltages in a string monitor REPORT. -/
def readBlocks : Nat → List Byte → List Nat
  | 0, _ => []
  | n + 1, bs => beVal (bs.take 2) :: readBlocks n (bs.drop 2)

/-- The fields of a string monitor REPORT, when it fits (01 R8, R10). -/
def readStringReport (p : List Byte) : Option StringReport :=
  if 10 ≤ p.length then
    let n := beVal ((p.drop 9).take 1)
    if n ≤ 24 ∧ p.length = 10 + 2 * n then
      some {
        voltage := beVal (p.take 4)
        current := ofTwos 2 (beVal ((p.drop 4).take 2))
        temperature := ofTwos 2 (beVal ((p.drop 6).take 2))
        validFlag := beVal ((p.drop 8).take 1) != 0
        blocks := readBlocks n (p.drop 10) }
    else none
  else none

/-- The fields of a genset REPORT, when it fits (01 R9, R10). -/
def readGensetReport (p : List Byte) : Option GensetReport :=
  if p.length == 8 then
    match p with
    | e :: a :: f :: c :: h =>
      match e.toNat with
      | 0 => some ⟨.stopped, a.toNat != 0, min f.toNat 100, c.toNat, beVal h⟩
      | 1 => some ⟨.cranking, a.toNat != 0, min f.toNat 100, c.toNat, beVal h⟩
      | 2 => some ⟨.running, a.toNat != 0, min f.toNat 100, c.toNat, beVal h⟩
      | 3 => some ⟨.fault, a.toNat != 0, min f.toNat 100, c.toNat, beVal h⟩
      | _ => none
    | _ => none
  else none

/-! ### Orders -/

/-- An ENGINE action's value (01 R11). -/
def EngineAction.toNat : EngineAction → Nat
  | .start => 1 | .stop => 2 | .reset => 3

/-- An order's payload (01 R11). -/
def OrderBody.payload : OrderBody → List Byte
  | .setOutput v l => be 1 1 ++ be 4 v ++ be 2 l
  | .setState a => be 1 2 ++ be 1 (if a then 1 else 2)
  | .engine a => be 1 3 ++ be 1 a.toNat

/-- Whether two orders have the same order type. -/
def OrderBody.sameType : OrderBody → OrderBody → Bool
  | .setOutput _ _, .setOutput _ _ => true
  | .setState _, .setState _ => true
  | .engine _, .engine _ => true
  | _, _ => false

/-- Whether an order is a SET_OUTPUT. -/
def OrderBody.isSetOutput : OrderBody → Bool
  | .setOutput _ _ => true
  | _ => false

/-- Whether an order is an ENGINE order. -/
def OrderBody.isEngine : OrderBody → Bool
  | .engine _ => true
  | _ => false

/-- The voltage and current limit of a relayed payload that reads as SET_OUTPUT (01 R11). -/
def readSetOutput (p : List Byte) : Option (Nat × Nat) :=
  if p.length == 7 && p.head? == some 0x01 then
    some (beVal ((p.drop 1).take 4), beVal ((p.drop 5).take 2))
  else none

/-- The state ordered by a relayed payload that reads as SET_STATE with state 1 or 2 (01 R11, 02 R40). -/
def readSetState (p : List Byte) : Option Bool :=
  match p with
  | [0x02, 0x01] => some true
  | [0x02, 0x02] => some false
  | _ => none

/-- Whether a CONFIRM or DECLINE payload of the Length its kind asks is accepted for an ORDER (01 R12). -/
def replyFits (kind : Byte) (reply order : List Byte) : Bool :=
  (if kind == kindConfirm then reply.length == 1 else reply.length == 2) &&
    (order.isEmpty || reply.head? == order.head?)

end Sys2Proof.Machine
end

