-- ==== Sys2Proof/Machine/Ops.lean ====
section
/-! DEFINITION. Shared operations: timers, the agenda of hand-ons, and what the blocks read of the tables. -/

namespace Sys2Proof.Machine

/-! ### Timers -/

/-- Whether a timer runs. -/
def Timer.isRunning : Timer → Bool
  | .stopped => false
  | .running _ _ => true

/-- The time a timer has run, ms; 0 when it is stopped. -/
def Timer.elapsed (now : Nat) : Timer → Nat
  | .stopped => 0
  | .running start _ => now - start

/-- A timer's elapsed time in whole seconds. -/
def Timer.seconds (now : Nat) (t : Timer) : Nat := t.elapsed now / 1000

/-- Start a timer that is stopped; one that runs, runs on. -/
def Timer.startIfStopped (now length : Nat) : Timer → Timer
  | .stopped => .running now length
  | t => t

/-- A running timer with a new length; a stopped one stays stopped. -/
def Timer.relength (length : Nat) : Timer → Timer
  | .stopped => .stopped
  | .running start _ => .running start length

/-- Whether a running timer has run for its length or longer. -/
def Timer.isOver (now : Nat) : Timer → Bool
  | .stopped => false
  | .running start length => decide (start + length ≤ now)

/-- Seconds, minutes and hours in ms. -/
def sec (n : Nat) : Nat := n * 1000
/-- Minutes in ms. -/
def minutes (n : Nat) : Nat := n * 60000
/-- Hours in ms. -/
def hours (n : Nat) : Nat := n * 3600000

/-- Seconds elapsed since a time, stopping at 65,535, which an absent time gives too (02 R23). -/
def secondsSince (now : Nat) : Option Nat → Nat
  | none => 65535
  | some t => min ((now - t) / 1000) 65535

/-- A quotient, truncated toward zero; by zero it is a free value (log entry 28). -/
def quotient (a b : Nat) : Nat := if b = 0 then Config.byZero a else a / b

/-! ### The agenda -/

/-- Hand on: the signals join the agenda in order. -/
def Plant.post (l : List Signal) (p : Plant) : Plant := { p with agenda := p.agenda ++ l }

/-- Hand on when a condition holds. -/
def Plant.postIf (c : Bool) (l : List Signal) (p : Plant) : Plant := if c then p.post l else p

/-! ### What the blocks read -/

/-- Plant-clock time, ms. -/
abbrev Env.now (e : Env) : Nat := e.clock.now

/-- Site time with its mark. -/
def Env.stamp (e : Env) : Stamp := ⟨e.clock.site, e.clock.siteSet⟩

/-- A station's map entry (02 R20). -/
def Env.entry (e : Env) (st : Station) : StationEntry := e.tables.stationMap[st.val]

/-- A station's role. -/
def Env.role (e : Env) (st : Station) : Role := (e.entry st).role

/-- The stations 1 to 30. -/
def fieldStations : List Station := (indices 32).filter fun s => s.val != 0 && s.val != 31

/-- The station that names a unit, if any (02 R20). -/
def Env.unitStation (e : Env) (r : Role) (u : Nat) : Option Station :=
  fieldStations.find? fun s => e.role s == r && (e.entry s).unit == u

/-- The station of a rectifier. -/
def Env.rectStation (e : Env) (u : RectIx) : Option Station := e.unitStation .rectifier u.val

/-- The station of the genset. -/
def Env.gensetStation (e : Env) : Option Station := e.unitStation .genset 0

/-- A unit's link status: its station's, UNMAPPED when no station names it. -/
def Plant.linkOf (p : Plant) : Option Station → LinkStatus
  | none => .unmapped
  | some st => p.links[st].status

/-- The input that has a function, if any (09 R178). -/
def Env.inputWith (e : Env) (f : InputFunction) : Option InputIx :=
  (indices 8).find? fun i => e.tables.inputs[i].function == f

/-- Whether some input has a function. -/
def Env.hasInput (e : Env) (f : InputFunction) : Bool := (e.inputWith f).isSome

/-- The accepted level of the input that has a function; inactive when there is none. -/
def Env.inputLevel (e : Env) (f : InputFunction) : Bool :=
  match e.inputWith f with
  | some i => e.inputs[i].accepted
  | none => false

/-- Whether some rectifier record's station is REPORTING with ac_ok in its last report (05 R90, 08 R173). -/
def Plant.anyAcOk (e : Env) (p : Plant) : Bool :=
  (indices 12).any fun u =>
    p.linkOf (e.rectStation u) == .reporting &&
      (match p.rect.records[u].report with
       | some r => r.acOk
       | none => false)

/-- Whether the generator feeds: WARMUP, ON_LOAD or COOLDOWN (05 R90). -/
def RunState.feeds : RunState → Bool
  | .warmup | .onLoad | .cooldown => true
  | _ => false

/-- A string's capacity in mAh (04 R66). -/
def Env.capacity (e : Env) (i : StringIx) : Nat := e.tables.strings[i].capacity * 1000

/-- Whether a string is fitted (04 R65). -/
def Env.fitted (e : Env) (i : StringIx) : Bool := e.tables.strings[i].capacity != 0

/-- The strings in REPORTING, in index order. -/
def Plant.reportingStrings (p : Plant) : List StringIx :=
  (indices 4).filter fun i => p.strings[i].status == .reporting

/-- The rectifiers in ACTIVE, in duty order. -/
def Plant.activeRects (p : Plant) : List RectIx :=
  p.rect.duty.filter fun u => p.rect.records[u].status == .active

/-- The number of rectifier records in ACTIVE. -/
def Plant.activeCount (p : Plant) : Nat :=
  (indices 12).countP fun u => p.rect.records[u].status == .active

/-- Whether the part commands the rectifiers: AUTO outside START_UP (07 R150). -/
def Plant.canOrder (e : Env) (p : Plant) : Bool :=
  e.mode == .auto && p.charge.state != .startUp

/-! ### Named timers -/

/-- A block's timer by its name. -/
def Plant.timer (p : Plant) : TimerId → Timer
  | .evaluation => p.charge.evaluation
  | .startHold => p.charge.startHold
  | .dischargeDebounce => p.charge.dischargeDebounce
  | .recoveryDebounce => p.charge.recoveryDebounce
  | .boost => p.charge.boost
  | .taper => p.charge.taper
  | .equalizeDuration => p.charge.equalizeDuration
  | .tempHold => p.battery.hold
  | .testDuration => p.test.duration
  | .disconnect => p.ld.disconnect
  | .reconnect => p.ld.reconnect
  | .mismatch => p.ld.mismatchTimer
  | .sizing => p.rect.sizing
  | .shed => p.rect.shed
  | .stagger => p.rect.stagger
  | .refresh => p.rect.refresh
  | .lowVoltage => p.gen.lowVoltage
  | .dischargeTime => p.gen.dischargeTime
  | .crank => p.gen.crank
  | .rest => p.gen.rest
  | .warmup => p.gen.warmup
  | .warmupSecond => p.gen.warmupSecond
  | .cooldown => p.gen.cooldown
  | .stopConfirm => p.gen.stopConfirm
  | .retry => p.gen.retry
  | .follow u => p.rect.records[u].follow
  | .recovery u => p.rect.records[u].recovery
  | .delay i => p.alarms.points[i].delay

/-- The rectifier records with one changed. -/
def RectUnit.modify (u : RectIx) (f : RectRec → RectRec) (r : RectUnit) : RectUnit :=
  { r with records := put r.records u (f r.records[u]) }

/-- The plant with one rectifier record changed. -/
def Plant.modifyRect (u : RectIx) (f : RectRec → RectRec) (p : Plant) : Plant :=
  { p with rect := p.rect.modify u f }

/-- The plant with one alarm point changed. -/
def Plant.modifyPoint (i : PointIx) (f : Point → Point) (p : Plant) : Plant :=
  { p with alarms := { p.alarms with points := put p.alarms.points i (f p.alarms.points[i]) } }

/-- The plant with one string record changed. -/
def Plant.modifyString (i : StringIx) (f : StringRec → StringRec) (p : Plant) : Plant :=
  { p with strings := put p.strings i (f p.strings[i]) }

/-- Set a block's timer by its name. -/
def Plant.setTimer (p : Plant) (t : Timer) : TimerId → Plant
  | .evaluation => { p with charge := { p.charge with evaluation := t } }
  | .startHold => { p with charge := { p.charge with startHold := t } }
  | .dischargeDebounce => { p with charge := { p.charge with dischargeDebounce := t } }
  | .recoveryDebounce => { p with charge := { p.charge with recoveryDebounce := t } }
  | .boost => { p with charge := { p.charge with boost := t } }
  | .taper => { p with charge := { p.charge with taper := t } }
  | .equalizeDuration => { p with charge := { p.charge with equalizeDuration := t } }
  | .tempHold => { p with battery := { p.battery with hold := t } }
  | .testDuration => { p with test := { p.test with duration := t } }
  | .disconnect => { p with ld := { p.ld with disconnect := t } }
  | .reconnect => { p with ld := { p.ld with reconnect := t } }
  | .mismatch => { p with ld := { p.ld with mismatchTimer := t } }
  | .sizing => { p with rect := { p.rect with sizing := t } }
  | .shed => { p with rect := { p.rect with shed := t } }
  | .stagger => { p with rect := { p.rect with stagger := t } }
  | .refresh => { p with rect := { p.rect with refresh := t } }
  | .lowVoltage => { p with gen := { p.gen with lowVoltage := t } }
  | .dischargeTime => { p with gen := { p.gen with dischargeTime := t } }
  | .crank => { p with gen := { p.gen with crank := t } }
  | .rest => { p with gen := { p.gen with rest := t } }
  | .warmup => { p with gen := { p.gen with warmup := t } }
  | .warmupSecond => { p with gen := { p.gen with warmupSecond := t } }
  | .cooldown => { p with gen := { p.gen with cooldown := t } }
  | .stopConfirm => { p with gen := { p.gen with stopConfirm := t } }
  | .retry => { p with gen := { p.gen with retry := t } }
  | .follow u => p.modifyRect u fun r => { r with follow := t }
  | .recovery u => p.modifyRect u fun r => { r with recovery := t }
  | .delay i => p.modifyPoint i fun x => { x with delay := t }

/-- Measure a running timer against a new length: it takes the length, and when it has already run
for that long its expiry is handed on (05 R87, R89 and the other tables' rules). -/
def Plant.remeasure (e : Env) (id : TimerId) (length : Nat) (p : Plant) : Plant :=
  let t := (p.timer id).relength length
  (p.setTimer t id).postIf (t.isOver e.now) [.expired id]

end Sys2Proof.Machine
end

