-- ==== Sys2Proof/Machine/Alarm.lean ====
section
/-! DEFINITION. Alarm unit (10): points, notices, history, fault capture; relays (09 R183). -/

namespace Sys2Proof.Machine

/-- The non-maskable points 0, 3 and 12 (10 R185). -/
def nonMaskable (i : PointIx) : Bool := i.val == 0 || i.val == 3 || i.val == 12

/-- A point's ALARMS entry. -/
def Env.alarm (e : Env) (i : PointIx) : AlarmEntry := e.tables.alarms[i]

/-- Whether a point is enabled: enable yes, or non-maskable (10 R185). -/
def Env.enabled (e : Env) (i : PointIx) : Bool := (e.alarm i).enable || nonMaskable i

/-- Whether a point is enabled and of severity CRITICAL. -/
def Env.critical (e : Env) (i : PointIx) : Bool :=
  e.enabled i && (e.alarm i).severity == .critical

/-- ACTIVE, CLEARING or HELD (09 R183, 03 R46). -/
def PointState.stands : PointState → Bool
  | .active | .clearing | .held => true
  | _ => false

/-- Whether any enabled CRITICAL point is ACTIVE (10 R188, 06 R116). -/
def Plant.criticalActive (e : Env) (p : Plant) : Bool :=
  (indices 40).any fun i => e.critical i && p.alarms.points[i].state == .active

/-! ### Relays -/

/-- Whether a point calls a relay (09 R183). -/
def calls (e : Env) (a : Alarms) (x : RelayIx) (i : PointIx) : Bool :=
  e.enabled i && (e.alarm i).relaySet.testBit x.val && a.points[i].state.stands &&
    (!e.tables.relays[x] || !a.points[i].acked)

/-- Whether a relay is energized (09 R183). -/
def relayEnergized (e : Env) (s : PlantState) (a : Alarms) (x : RelayIx) : Bool :=
  s != .startUp && !(indices 40).any (calls e a x)

/-- The output drivers work out the relays (09 R183; log entry 30). -/
def Plant.driveRelays (e : Env) (p : Plant) : Plant :=
  { p with outputs := { p.outputs with
      relays := .ofFn (relayEnergized e p.charge.state p.alarms) } }

/-! ### Notice queue -/

/-- The kind of a queued notice after a further transition, a raise or not (10 R190). -/
def NoticeKind.after : NoticeKind → Bool → NoticeKind
  | .raise, false => .transient
  | .clear, true => .repeat
  | .transient, true => .repeat
  | .repeat, false => .transient
  | .raise, true => .repeat
  | .repeat, true => .repeat
  | .clear, false => .transient
  | .transient, false => .transient

/-- The lowest severity among notices. -/
def lowestSeverity : List Notice → Nat
  | [] => 4
  | n :: ns => min n.severity.toNat (lowestSeverity ns)

/-- Offer a new notice to a queue that holds none of its point (10 R191). -/
def Alarms.enqueue (n : Notice) (a : Alarms) : Alarms :=
  if a.notices.length < 16 then { a with notices := a.notices ++ [n] }
  else
    let low := lowestSeverity a.notices
    if low < n.severity.toNat then
      { a with
        notices := a.notices.eraseP (fun m => m.severity.toNat == low) ++ [n]
        overflow := true }
    else { a with overflow := true }

/-- A raise's or clear's notice: changed in place when one of the point is queued (10 R190). -/
def Alarms.notify (n : Notice) (a : Alarms) : Alarms :=
  if a.notices.any (fun m => m.point == n.point) then
    { a with notices := a.notices.map fun m =>
        if m.point == n.point then { n with kind := m.kind.after (n.kind == .raise) } else m }
  else a.enqueue n

/-! ### History ring -/

/-- Write a history entry (10 R193). -/
def Alarms.record (stamp : Stamp) (point : Option PointIx) (event : HistoryEvent) (a : Alarms) :
    Alarms :=
  let ring := a.history ++ [⟨a.nextSeq, stamp, point, event⟩]
  { a with
    history := ring.drop (ring.length - 64)
    nextSeq := if a.nextSeq = 4294967295 then 1 else a.nextSeq + 1 }

/-! ### Fault capture -/

/-- What a raise of a point captures (10 R195). -/
def Plant.snapshot (e : Env) (i : PointIx) (more : Bool) (p : Plant) : Capture where
  point := i
  severity := (e.alarm i).severity
  stamp := e.stamp
  plant := p.charge.state
  source := p.charge.source
  bus := p.battery.busVoltage
  soc := p.battery.weakestSoc
  run := p.gen.run
  activeRects := p.activeCount
  moreFaults := more

/-- The capture's examination at a raise of an enabled point (10 R195). -/
def Plant.examineCapture (e : Env) (i : PointIx) (p : Plant) : Plant :=
  if e.tables.supervision.captureThreshold.toNat ≤ (e.alarm i).severity.toNat then
    let next :=
      match p.alarms.capture with
      | none => p.snapshot e i false
      | some c =>
        if c.severity.toNat < (e.alarm i).severity.toNat then p.snapshot e i true
        else { c with moreFaults := true }
    { p with alarms := { p.alarms with capture := some next } }
  else p

/-! ### Points -/

/-- The notice and history entry of a raise or clear, by route (10 R188). -/
def Plant.recordTransition (e : Env) (i : PointIx) (isRaise : Bool) (p : Plant) : Plant :=
  if e.enabled i then
    let x := e.alarm i
    let a := p.alarms
    let a := if x.route == .notice then
        a.notify ⟨i, if isRaise then .raise else .clear, x.severity, e.stamp,
          p.battery.busVoltage, p.charge.state⟩
      else a
    let a := if x.route == .silent then a
      else a.record e.stamp (some i) (if isRaise then .raise else .clear)
    { p with alarms := a }
  else p

/-- A point enters ACTIVE; when it is an enabled CRITICAL one the battery test is told (10 R188). That the test
ends after the further conditions of the same working-out, and a momentary condition's own clear, are taken
is a DESIGN CHOICE: their notices still carry the plant state TEST (log entry 69). -/
def Plant.enterActive (e : Env) (i : PointIx) (p : Plant) : Plant :=
  (p.modifyPoint i fun x => { x with state := .active, delay := .stopped }).postIf
    (e.critical i) [.testAbort .abortedAlarm]

/-- A raise: a new instance begins in ACTIVE (10 R187, R188). -/
def Plant.raise (e : Env) (i : PointIx) (p : Plant) : Plant :=
  let p := p.modifyPoint i fun x => { x with acked := false, raiseTime := some e.clock.site }
  let p := (p.enterActive e i).recordTransition e i true
  if e.enabled i then p.examineCapture e i else p

/-- A clear: the instance ends in IDLE (10 R187, R188). -/
def Plant.clearPoint (e : Env) (i : PointIx) (p : Plant) : Plant :=
  let p := p.modifyPoint i fun x => { x with state := .idle, delay := .stopped, raiseTime := none }
  p.recordTransition e i false

/-- The outcome of a clear delay's expiry (10 R187). -/
def Plant.clearOutcome (e : Env) (i : PointIx) (p : Plant) : Plant :=
  if (e.alarm i).latching && !p.alarms.points[i].acked then
    p.modifyPoint i fun x => { x with state := .held, delay := .stopped }
  else p.clearPoint e i

/-- The condition of an ACTIVE point becomes false (10 R187). -/
def Plant.beginClear (e : Env) (i : PointIx) (p : Plant) : Plant :=
  if (e.alarm i).clearDelay = 0 then p.clearOutcome e i
  else p.modifyPoint i fun x =>
    { x with state := .clearing, delay := .running e.now (sec (e.alarm i).clearDelay) }

/-- A condition is handed to its point (10 R186, R187). -/
def Plant.setCond (e : Env) (i : PointIx) (b : Bool) (p : Plant) : Plant :=
  if p.alarms.points[i].condition == b then p
  else
    let p := p.modifyPoint i fun x => { x with condition := b }
    match p.alarms.points[i].state, b with
    | .idle, true =>
      if (e.alarm i).raiseDelay = 0 then p.raise e i
      else p.modifyPoint i fun x =>
        { x with state := .raising, delay := .running e.now (sec (e.alarm i).raiseDelay) }
    | .raising, false => p.modifyPoint i fun x => { x with state := .idle, delay := .stopped }
    | .active, false => p.beginClear e i
    | .clearing, true => p.enterActive e i
    | .held, true => p.enterActive e i
    | _, _ => p

/-- A momentary condition: true with no raise delay, then false at once (10 R186). -/
def Plant.momentary (e : Env) (i : PointIx) (p : Plant) : Plant :=
  let p :=
    match p.alarms.points[i].state with
    | .idle | .raising => p.raise e i
    | .clearing | .held => p.enterActive e i
    | .active => p
  let p := p.modifyPoint i fun x => { x with condition := false }
  p.beginClear e i

/-- A point's delay timer expires (10 R187). -/
def Plant.delayExpired (e : Env) (i : PointIx) (p : Plant) : Plant :=
  match p.alarms.points[i].state with
  | .raising => p.raise e i
  | .clearing => p.clearOutcome e i
  | _ => p

/-! ### The four conditions the alarm unit works out itself -/

/-- Whether a valid bus voltage satisfies a test. -/
def busIs (v : Option Nat) (test : Nat → Bool) : Bool :=
  match v with
  | some x => test x
  | none => false

/-- Conditions 0, 1, 2 and 15, the alarm unit's own (10 R186). That they are taken in this order at one
working-out is a DESIGN CHOICE: it decides the order of their notices and history entries, and which of two
points of one severity fills an empty capture (log entry 56). -/
def Plant.busConds (e : Env) (p : Plant) : Plant :=
  let t := e.tables.plant
  let v := p.battery.busVoltage
  let p := p.setCond e 0 (busIs v fun x => decide (t.busHigh ≤ x))
  let p := p.setCond e 1 (busIs v fun x => decide (x ≤ t.busLow))
  let p := p.setCond e 2 (busIs v fun x => decide (x ≤ t.busVeryLow))
  if p.reportingStrings.isEmpty then p
  else p.setCond e 15 (decide (p.battery.weakestSoc ≤ e.tables.genset.startSoc + 10))

/-! ### Acknowledgement -/

/-- ACK of one point: the plant after it, and whether it took effect (10 R189). -/
def Plant.ackPoint (e : Env) (i : PointIx) (p : Plant) : Plant × Bool :=
  let mark (p : Plant) : Plant :=
    let p := p.modifyPoint i fun x => { x with acked := true }
    if e.enabled i then { p with alarms := p.alarms.record e.stamp (some i) .ack } else p
  match p.alarms.points[i].state with
  | .active | .clearing => if p.alarms.points[i].acked then (p, false) else (mark p, true)
  | .held => ((mark p).clearPoint e i, true)
  | _ => (p, false)

/-- ACK of points in turn: the plant after it, and on how many it took effect (10 R189). -/
def Plant.ackPoints (e : Env) : List PointIx → Plant → Plant × Nat
  | [], p => (p, 0)
  | i :: is, p =>
    let r := p.ackPoint e i
    let q := Plant.ackPoints e is r.1
    (q.1, q.2 + if r.2 then 1 else 0)

/-! ### Counts -/

/-- The enabled points of a severity in ACTIVE, CLEARING or HELD (03 R46 field 15). -/
def Plant.alarmCount (e : Env) (sev : Severity) (p : Plant) : Nat :=
  (indices 40).countP fun i =>
    e.enabled i && (e.alarm i).severity == sev && p.alarms.points[i].state.stands

/-- Of the points counted, those not acknowledged (03 R46 field 16). -/
def Plant.unackedCount (e : Env) (p : Plant) : Nat :=
  (indices 40).countP fun i =>
    e.enabled i && p.alarms.points[i].state.stands && !p.alarms.points[i].acked

/-! ### COLLECT -/

/-- The position of the notice to collect first: the highest severity, the oldest within it (10 R192). -/
def pickNotice (ns : List Notice) : Option Notice :=
  ns.foldl (fun best n =>
    match best with
    | none => some n
    | some b => if b.severity.toNat < n.severity.toNat then some n else some b) none

/-- Up to `k` notices in the order collected, and those left (10 R192). -/
def collectNotices : Nat → List Notice → List Notice × List Notice
  | 0, ns => ([], ns)
  | k + 1, ns =>
    match pickNotice ns with
    | none => ([], ns)
    | some n =>
      let r := collectNotices k (ns.erase n)
      (n :: r.1, r.2)

end Sys2Proof.Machine
end

