-- ==== Sys2Proof/Machine/Orders.lean ====
section
/-! DEFINITION. Plant bus engine, the part the other blocks reach: link records, order queue, FIELD_BUS_FAULT (02). -/

namespace Sys2Proof.Machine

/-! ### The order queue -/

/-- Whether two orders carry the same station and order type (02 R31). -/
def Order.matches (a b : Order) : Bool := a.station == b.station && a.body.sameType b.body

/-- Whether an order is the ENGINE RESET. -/
def Order.isReset (o : Order) : Bool := o.body == .engine .reset

/-- Make room in a queue: the oldest SET_OUTPUT goes, otherwise the oldest order (02 R32). -/
def displace (q : List Order) : List Order :=
  if q.any (fun o => o.body.isSetOutput) then q.eraseP (fun o => o.body.isSetOutput) else q.tail

/-- The queue after an order is offered and taken (02 R31, R32). -/
def enqueueOrder (o : Order) (q : List Order) : List Order :=
  if q.any o.matches then
    q.map fun x => if o.matches x then { o with attempts := 0 } else x
  else if q.length < 16 then q ++ [o]
  else displace q ++ [o]

/-- Change the queue without a report; a RESET that goes or is replaced is no longer outstanding (08 R171). -/
def Plant.setQueue (q : List Order) (p : Plant) : Plant :=
  ({ p with queue := q } : Plant).postIf
    (p.queue.any Order.isReset && !q.any Order.isReset) [.resetEnded]

/-- A job offers an order (02 R31, R32). -/
def Plant.offer (o : Order) (p : Plant) : Plant :=
  match p.links[o.station].status with
  | .unmapped | .lost => p.post [.orderDropped o]
  | _ => p.setQueue (enqueueOrder o p.queue)

/-! ### Link records -/

/-- A link record started anew for a role (02 R24). -/
def Link.fresh (r : Role) : Link :=
  ⟨if r == .unused then .unmapped else .discovering, 0, 0, none⟩

/-- The notice a change of link status gives the unit (02 R25). -/
def LinkStatus.notice : LinkStatus → Option UnitNotice
  | .reporting => some .reporting
  | .lost => some .lost
  | _ => none

/-- The signal that hands a notice to the unit that a map entry names. -/
def StationEntry.notify (x : StationEntry) (n : UnitNotice) : List Signal :=
  match x.role with
  | .rectifier => if h : x.unit < 12 then [.rectNotice ⟨x.unit, h⟩ n] else []
  | .stringMonitor => if h : x.unit < 4 then [.stringNotice ⟨x.unit, h⟩ n] else []
  | .genset => [.gensetNotice n]
  | _ => []

/-- What follows a change of a rectifier station's link status (05 R91, 08 R173); the order is a DESIGN CHOICE
(log entry 62). -/
def StationEntry.linkReaders (x : StationEntry) : List Signal :=
  if x.role == .rectifier then [.workSource, .indication] else []

/-- A change of link status: the unit is told, a lost station's orders are dropped, and
FIELD_BUS_FAULT is worked out (02 R25); the order is a DESIGN CHOICE (log entry 65). -/
def Plant.changeLink (e : Env) (st : Station) (new : LinkStatus) (p : Plant) : Plant :=
  if p.links[st].status == new then p
  else
    let x := e.entry st
    let p := { p with links := put p.links st { p.links[st] with status := new } }
    let dropped := if new == .lost then p.queue.filter (fun o => o.station == st) else []
    let p := if new == .lost then
        { p with queue := p.queue.filter fun o => !(o.station == st) } else p
    let notes := match new.notice with
      | some n => x.notify n
      | none => []
    p.post (notes ++ dropped.map Signal.orderDropped ++ x.linkReaders ++ [.fieldBus])

/-- A good reply from a station (02 R24). -/
def Plant.goodReply (e : Env) (st : Station) (t : Nat) (p : Plant) : Plant :=
  if e.role st == .unused then p
  else
    let l := p.links[st]
    let goods := min (l.goods + 1) 255
    let p := { p with links := put p.links st { l with misses := 0, goods := goods, lastReply := some t } }
    match l.status with
    | .discovering => p.post [.linkStatus st .reporting]
    | .lost => p.postIf (decide (e.tables.fieldTiming.recoveryCount ≤ goods)) [.linkStatus st .reporting]
    | _ => p

/-- A miss of a station (02 R24). -/
def Plant.miss (e : Env) (st : Station) (p : Plant) : Plant :=
  if e.role st == .unused then p
  else
    let l := p.links[st]
    let misses := min (l.misses + 1) 255
    let p := { p with links := put p.links st { l with misses := misses, goods := 0 } }
    match l.status with
    | .discovering | .reporting =>
      p.postIf (decide (e.tables.fieldTiming.missLimit ≤ misses)) [.linkStatus st .lost]
    | _ => p

/-- Whether a poll list slot names a station whose role is not UNUSED, and which. -/
def Env.slotStation (e : Env) (i : Fin 24) : Option Station :=
  let s := e.tables.pollList[i].station
  if h : 0 < s ∧ s < 31 then
    let st : Station := ⟨s, by omega⟩
    if e.role st == .unused then none else some st
  else none

/-- Whether FIELD_BUS_FAULT holds (02 R25). -/
def Plant.fieldBusFault (e : Env) (p : Plant) : Bool :=
  let named := (indices 24).filterMap e.slotStation
  !named.isEmpty && named.all fun st => p.links[st].status == .lost

/-- FIELD_BUS_FAULT is handed to the alarm unit (02 R25). -/
def Plant.fieldBus (e : Env) (p : Plant) : Plant := p.setCond e 29 (p.fieldBusFault e)

/-- The order-queue end of an order that got no reply, after the miss has been counted (02 R33, R34).
`lost` says that the miss has made the station LOST. -/
def Plant.retryOrder (e : Env) (o : Order) (lost noRetry : Bool) (p : Plant) : Plant :=
  if lost then p.post [.orderDropped o]
  else if e.tables.fieldTiming.orderRetries + 1 ≤ o.attempts then p.post [.orderDropped o]
  else if noRetry || p.queue.any o.matches then p.postIf o.isReset [.resetEnded]
  else if 16 ≤ p.queue.length then p.post [.orderDropped o]
  else { p with queue := o :: p.queue }

end Sys2Proof.Machine
end

