-- ==== Sys2Proof/Machine/Strings.lean ====
section
/-! DEFINITION. String accounting (04). -/

namespace Sys2Proof.Machine

/-- The lower bound of a string's shortfall, mAh (04 R72). -/
def Env.dMin (e : Env) (i : StringIx) : Int :=
  -((e.tables.strings[i].capacity * 10 * e.tables.profile.overcharge : Nat) : Int)

/-- The lowest and highest shortfall of a string (04 R72). -/
def Env.dRange (e : Env) (i : StringIx) : Int × Int :=
  if e.fitted i then (e.dMin i, e.capacity i) else (0, 0)

/-- A shortfall and residue clamped into a range (04 R72). -/
def clampCharge (range : Int × Int) (d residue : Int) : Int × Int :=
  if range.2 < d then (range.2, 0)
  else if d < range.1 then (range.1, 0)
  else (d, residue)

/-- The state of charge for a capacity in mAh and a shortfall (04 R73). -/
def socOf (capacity : Nat) (d : Int) : Nat :=
  (100 * ((capacity : Int) - max d 0) / (capacity : Int)).toNat

/-- A string's state of charge; 0 when it is not fitted (04 R73). -/
def Env.soc (e : Env) (i : StringIx) (d : Int) : Nat :=
  if e.fitted i then socOf (e.capacity i) d else 0

/-- A string's record with its shortfall clamped into the range in force and its SOC worked out (04 R66, R72). -/
def StringRec.reclamp (e : Env) (i : StringIx) (r : StringRec) : StringRec :=
  let c := clampCharge (e.dRange i) r.shortfall r.residue
  { r with shortfall := c.1, residue := c.2, soc := e.soc i c.1 }

/-- The charge of an interval after the return factor (04 R71 steps 1 and 2). -/
def chargeOf (current : Int) (dt eta : Nat) : Int :=
  let q := current * dt
  if 0 < current then (q * eta).tdiv 100 else q

/-- A charge brought into a balance (04 R71 steps 3 to 6). -/
def integrate (range : Int × Int) (q d residue : Int) : Int × Int :=
  let sum := residue + q
  let whole := sum.tdiv 36000
  clampCharge range (d - whole) (sum - whole * 36000)

/-- Whether a report taken for a record integrates (04 R69). -/
def StringRec.integrates (r : StringRec) : Bool := r.status == .reporting && r.tPrev.isSome

/-- The record's charge balance brought up to date by a report at time `t` (04 R69 to R72). -/
def StringRec.balance (e : Env) (i : StringIx) (current : Int) (t : Nat) (r : StringRec) :
    StringRec :=
  match r.status, r.tPrev with
  | .reporting, some prev =>
    let gap := e.tables.strings[i].gapLimit
    let isLong := gap < t - prev
    let dt := if isLong then gap else t - prev
    let c := integrate (e.dRange i) (chargeOf current dt e.tables.strings[i].eta)
      r.shortfall r.residue
    { r with shortfall := c.1, residue := c.2, tPrev := some t, estimated := r.estimated || isLong }
  | status, prev => { r with
      tPrev := some t
      estimated := r.estimated || status == .discovering || status == .lost || prev.isNone }

/-- The block spread of a block list (04 R79). -/
def blockSpread : List Nat → Nat
  | b :: c :: bs => (c :: bs).foldl max b - (c :: bs).foldl min b
  | _ => 0

/-- Whether a reported temperature is valid (04 R68 step 3). -/
def tempIsValid (f : Bool) (t : Int) : Bool := f && decide (-400 ≤ t) && decide (t ≤ 850)

/-- A record with a report's readings stored (04 R68 steps 1 to 3). -/
def StringRec.store (r : StringReport) (x : StringRec) : StringRec :=
  { x with
    voltage := r.voltage, current := r.current, blocks := r.blocks
    temperature := r.temperature, tempValid := tempIsValid r.validFlag r.temperature }

/-- A string monitor report is taken (04 R68). The change of an integrating report's shortfall is
handed to the battery test ahead of the recomputation (04 R80; log entry 20). -/
def Plant.stringReport (e : Env) (i : StringIx) (r : StringReport) (t : Nat) (p : Plant) : Plant :=
  let old := p.strings[i]
  if e.fitted i then
    let x := (old.store r).balance e i r.current t
    let spread := blockSpread r.blocks
    let limit := e.tables.strings[i].imbalanceLimit
    let x := { x with
      soc := e.soc i x.shortfall, spread := spread
      imbalance := limit != 0 && decide (limit < spread) }
    (({ p with strings := put p.strings i x }).postIf old.integrates
      [.testCharge (x.shortfall - old.shortfall)]).post [.recompute]
  else
    { p with strings := put p.strings i { old.store r with spread := blockSpread r.blocks } }

/-- The status a notice gives a string's record (04 R67). -/
def stringStatus (fitted : Bool) : UnitNotice → UnitStatus
  | .discovering => if fitted then .discovering else .absent
  | .reporting => if fitted then .reporting else .absent
  | .lost => if fitted then .lost else .absent
  | .absent => .absent

/-- A notice of a string's station is taken; each change of status is followed by the
recomputation (04 R67). -/
def Plant.stringNotice (e : Env) (i : StringIx) (n : UnitNotice) (p : Plant) : Plant :=
  let status := stringStatus (e.fitted i) n
  (p.modifyString i fun r => { r with status := status }).postIf (p.strings[i].status != status)
    [.recompute]

/-- The weakest of some strings: the lowest SOC, the lowest index within it (04 R74). -/
def weakestOf (p : Plant) : List StringIx → Option StringIx
  | [] => none
  | i :: is =>
    match weakestOf p is with
    | none => some i
    | some j => if p.strings[i].soc ≤ p.strings[j].soc then some i else some j

/-- The output voltages in the last reports of the ACTIVE rectifiers that hold one (04 R76; log entry 47). -/
def Plant.activeVoltages (p : Plant) : List Nat :=
  (indices 12).filterMap fun u =>
    if p.rect.records[u].status == .active then p.rect.records[u].report.map (·.voltage) else none

/-- The bus voltage, none when invalid (04 R76). -/
def Plant.findBusVoltage (p : Plant) : Option Nat :=
  match p.reportingStrings with
  | i :: _ => some p.strings[i].voltage
  | [] =>
    match p.activeVoltages with
    | [] => none
    | vs => some (vs.sum / vs.length)

/-- The temperatures of the REPORTING strings that are valid (04 R77). -/
def Plant.validTemps (p : Plant) : List Int :=
  p.reportingStrings.filterMap fun i =>
    if p.strings[i].tempValid then some p.strings[i].temperature else none

/-- T_comp, its source and the hold timer worked out anew (04 R77, R78). -/
def Battery.followTemps (now : Nat) (temps : List Int) (b : Battery) : Battery :=
  match temps with
  | t :: ts => { b with tComp := ts.foldl max t, tSource := .live, hold := .stopped }
  | [] =>
    if b.tSource == .live then { b with tSource := .holding, hold := .running now (sec 600) } else b

/-- The quantities of 04, 4.4 and 4.5 worked out anew. -/
def Plant.workQuantities (e : Env) (p : Plant) : Plant :=
  let rs := p.reportingStrings
  let currents := rs.map fun i => p.strings[i].current
  let weakest := weakestOf p rs
  let b := p.battery
  let b := { b with
    weakestIndex := weakest
    weakestSoc := match weakest with
      | some i => p.strings[i].soc
      | none => b.weakestSoc
    iBat := currents.sum
    iChg := (currents.filter fun c => decide (0 < c)).sum
    busVoltage := p.findBusVoltage }
  { p with battery := b.followTemps e.now p.validTemps }

/-- A recomputation, and its handing to the readers (04 R80). That the examination comes first, then the test's
comparison, and the alarm unit's own conditions last is a DESIGN CHOICE: where one handing ends a running test
in several ways, over-temperature (ABORTED_ALARM) is taken before the fail threshold, and FAILED before a
CRITICAL point of the bus voltage (06 R121, R122; log entry 54). -/
def Plant.recompute (e : Env) (p : Plant) : Plant :=
  (p.workQuantities e).post [.examine, .testVoltage, .ldExam, .reasonExam, .stringConds, .busConds]

/-- The bus voltage worked out at a rectifier event (04 R76, 06 R127, 08 R161, 10 R186); the order of its
readers is the recomputation's (log entry 54). -/
def Plant.workBusVoltage (p : Plant) : Plant :=
  ({ p with battery := { p.battery with busVoltage := p.findBusVoltage } }).post
    [.testVoltage, .ldExam, .reasonExam, .busConds]

/-- Conditions 10, 13, 16 and 30 (04 R80); their order is a DESIGN CHOICE (log entry 57). -/
def Plant.stringConds (e : Env) (p : Plant) : Plant :=
  let lost := (indices 4).any fun i => p.strings[i].status == .lost
  let imbalance := p.reportingStrings.any fun i => p.strings[i].imbalance
  let estimated := p.reportingStrings.any fun i => p.strings[i].estimated
  let fallback := p.battery.tSource == .fallback
  (((p.setCond e 10 lost).setCond e 13 imbalance).setCond e 16 estimated).setCond e 30 fallback

/-- A full-charge resynchronisation (04 R81). -/
def Plant.resync (e : Env) (p : Plant) : Plant :=
  let sync (p : Plant) (i : StringIx) : Plant := p.modifyString i fun r =>
    if r.status == .reporting then
      { r with shortfall := e.dMin i, residue := 0, estimated := false, soc := e.soc i (e.dMin i) }
    else r
  ((indices 4).foldl sync p).post [.recompute]

/-- The compensation temperature hold timer expires (04 R78, R80). -/
def Plant.tempHoldExpired (p : Plant) : Plant :=
  ({ p with battery := { p.battery with tComp := 300, tSource := .fallback } }).post [.recompute]

/-- A write changes the rated capacity of a string: `old` is the entry before it (04 R66, R80). A change of
another field alone is followed by no recomputation of its own (log entry 39). -/
def Plant.capacityChanged (e : Env) (i : StringIx) (old : StringsEntry) (p : Plant) : Plant :=
  let new := e.tables.strings[i].capacity
  if old.capacity = new then p
  else
    let p :=
      if new = 0 then
        p.modifyString i fun r => { r with
          status := .absent, shortfall := 0, residue := 0, soc := 0, tPrev := none
          estimated := true }
      else if old.capacity = 0 then
        let d : Int := (new * 1000 * e.tables.plant.startUpShortfall / 100 : Nat)
        let status : UnitStatus :=
          match p.linkOf (e.unitStation .stringMonitor i.val) with
          | .unmapped => .absent
          | .discovering => .discovering
          | .reporting => .reporting
          | .lost => .lost
        p.modifyString i fun r => { r with
          status := status, shortfall := d, residue := 0, tPrev := none, estimated := true
          soc := e.soc i d }
      else p.modifyString i (StringRec.reclamp e i)
    p.post [.recompute]

/-- Every fitted string's shortfall clamped into its range (04 R66, 05 R87 step 1). -/
def Plant.reclampAll (e : Env) (p : Plant) : Plant :=
  (indices 4).foldl (fun p i => if e.fitted i then p.modifyString i (StringRec.reclamp e i) else p) p

end Sys2Proof.Machine
end

