-- ==== Sys2Proof/Machine/Charge.lean ====
section
/-! DEFINITION. Charge controller (05): source, plant states, setpoint, trim. -/

namespace Sys2Proof.Machine

/-! ### Supply source -/

/-- Whether mains is present (05 R90). -/
def Plant.mainsPresent (e : Env) (p : Plant) : Bool :=
  if e.hasInput .mainsSense then e.inputLevel .mainsSense
  else p.anyAcOk e && !p.gen.run.feeds

/-- The source that follows (05 R91). -/
def Plant.findSource (e : Env) (p : Plant) : Source :=
  if p.mainsPresent e then .mains
  else if p.gen.run.feeds && p.anyAcOk e then .generator
  else .none

/-- Mains presence and the source worked out anew; a changed source is handed on, and the controller
examines (05 R91, R92). That the run unit takes the change, with a start that it calls for, before the battery
test does is a DESIGN CHOICE: a test that a change to NONE and a start reason added at that change both end
is ABORTED_GENERATOR (06 R122; log entry 50), and so is the order of the other readers (log entry 65). -/
def Plant.workSource (e : Env) (p : Plant) : Plant :=
  let old := p.charge.source
  let new := p.findSource e
  let p := { p with charge := { p.charge with mains := p.mainsPresent e, source := new } }
  if old == new then p.post [.chargeConds]
  else p.post [.rectSource old new, .genSource old new, .testSource, .ldExam, .chargeConds, .examine]

/-- Conditions 4, 5, 11, 12, 14 and 24 (05 R92, R101, R106, R107, R111). Their order, ON_DISCHARGE before
MAINS_FAIL at the end of START_UP among it, is a DESIGN CHOICE (log entry 57). -/
def Plant.chargeConds (e : Env) (p : Plant) : Plant :=
  let c := p.charge
  let p := p.setCond e 4 (c.state == .discharge)
  let p := p.setCond e 5 (c.state != .startUp && !c.mains)
  let p := p.setCond e 11 c.highTemp
  let p := p.setCond e 12 c.overTemp
  let p := p.setCond e 14 c.boostTimeout
  p.setCond e 24 (decide (c.trim < 0))

/-! ### Setpoint -/

/-- The cell voltage of a plant state, mV (05 R109). -/
def Profile.cellVoltage (x : Profile) : PlantState → Nat
  | .startUp | .float | .discharge => x.floatCell
  | .boost => x.boostCell
  | .equalize => x.equalizeCell
  | .test => x.testCell

/-- The compensation temperature used (05 R109). -/
def Profile.usedTemp (x : Profile) (overTemp : Bool) (tComp : Int) : Int :=
  if overTemp then x.clampHigh else min (max tComp x.clampLow) x.clampHigh

/-- The compensation, µV per cell (05 R109). -/
def Profile.compensation (x : Profile) (s : PlantState) (t : Int) : Int :=
  if s == .test then 0 else (x.k * (t - x.tRef)).tdiv 10

/-- The base setpoint, mV: rounded once, a remainder of 500 µV up (05 R110). -/
def Profile.baseOf (x : Profile) (s : PlantState) (c : Int) : Int :=
  ((x.cells : Int) * ((x.cellVoltage s : Int) * 1000 + c) + 500) / 1000

/-- The setpoint, clamped into the bus limits (05 R112). -/
def Profile.clampBus (x : Profile) (v : Int) : Nat :=
  (min (max v x.busMin) x.busMax).toNat

/-- The setpoint worked out, without a trim step (05 R108 to R112). -/
def Charge.setpointFrom (x : Profile) (tComp : Int) (c : Charge) : Charge :=
  let t := x.usedTemp c.overTemp tComp
  let comp := x.compensation c.state t
  let base := x.baseOf c.state comp
  { c with tUsed := t, compensation := comp, base := base, setpoint := x.clampBus (base + c.trim) }

/-- The setpoint worked out and stored; while a test runs its test voltage follows (06 R119, R121). -/
def Plant.storeSetpoint (e : Env) (p : Plant) : Plant :=
  let c := p.charge.setpointFrom e.tables.profile p.battery.tComp
  { p with
    charge := c
    test := if c.state == .test && p.test.outcome == .running then { p.test with voltage := c.setpoint }
      else p.test }

/-- The readers of a setpoint: the rectifier duty unit and the generator's allowance (05 R108, 08 R175). That
SET_OUTPUT is composed under the old allowance first, and again when the new setpoint has changed the
allowance, is a DESIGN CHOICE (log entry 59). -/
def setpointReaders : List Signal := [.compose [], .workAllowance]

/-- The setpoint worked out and handed on (05 R108). -/
def Plant.workSetpoint (e : Env) (p : Plant) : Plant := (p.storeSetpoint e).post setpointReaders

/-! ### Trim -/

/-- The charge limit I_lim, dA (05 R111). -/
def Plant.chargeLimit (e : Env) (p : Plant) : Nat :=
  (p.reportingStrings.map fun i => e.tables.strings[i].capacity * e.tables.profile.chargeRate).sum / 10

/-- The trim after a step (05 R111). -/
def trimAfter (t : PlantTable) (iLim : Nat) (iChg trim : Int) : Int :=
  let trim := max trim (-(t.trimMax : Int))
  if (iLim : Int) < iChg then max (trim - t.trimDown) (-(t.trimMax : Int))
  else if iChg < ((iLim * 90 / 100 : Nat) : Int) then min (trim + t.trimUp) 0
  else trim

/-- Whether a trim step is taken in a plant state and mode (05 R111). -/
def trims (m : Mode) (s : PlantState) : Bool :=
  m == .auto && (s == .float || s == .boost || s == .equalize)

/-- The trim step of an evaluation, against I_lim (05 R111). -/
def Plant.trimStep (e : Env) (p : Plant) : Plant :=
  let c := p.charge
  { p with charge :=
    if trims e.mode c.state then { c with trim := trimAfter e.tables.plant c.iLim p.battery.iChg c.trim }
    else c }

/-! ### Examination -/

/-- The taper current I_taper, dA (05 R100). -/
def Plant.taperCurrent (e : Env) (p : Plant) : Nat :=
  (p.reportingStrings.map fun i => e.tables.strings[i].capacity * e.tables.profile.taperRate).sum / 100

/-- Whether the taper condition holds (05 R100). -/
def Plant.tapers (p : Plant) : Bool :=
  !p.reportingStrings.isEmpty &&
    (p.reportingStrings.all fun i =>
      decide (p.strings[i].shortfall ≤ 0) || p.strings[i].estimated) &&
    decide (p.battery.iChg ≤ p.charge.taperCurrent)

/-- Whether the weakest SOC calls for a boost (05 R95, R97, R98). -/
def Plant.shortOfCharge (e : Env) (p : Plant) : Bool :=
  decide (p.battery.weakestSoc ≤ 100 - e.tables.profile.boostEntry)

/-- Whether the battery current shows a discharge (05 R93). -/
def Plant.discharging (e : Env) (p : Plant) : Bool :=
  decide (p.battery.iBat ≤ -(e.tables.plant.dischargeThreshold : Int))

/-- Whether the source lets an equalize run (05 R103, R104). -/
def sourceEqualizes (t : PlantTable) (s : Source) : Bool :=
  s == .mains || (s == .generator && t.equalizeOnGenerator)

/-- Whether a pending equalize may start (05 R103). -/
def Plant.equalizeReady (e : Env) (p : Plant) : Bool :=
  !p.charge.overTemp && !p.validTemps.isEmpty &&
    (p.validTemps.all fun t => decide (t < e.tables.profile.equalizeMaxTemp)) &&
    sourceEqualizes e.tables.plant p.charge.source

/-- Conditions 11 and 12 follow the temperature statuses (05 R106). That BATTERY_HIGH_TEMP is handed before
BATTERY_OVER_TEMP is a DESIGN CHOICE (log entry 57). -/
def Plant.tempConds (e : Env) (p : Plant) : Plant :=
  (p.setCond e 11 p.charge.highTemp).setCond e 12 p.charge.overTemp

/-- Steps 1 to 3 of an examination: the conditions of step 1 are handed before a transition of step 4 (05
R94, R100, R106). -/
def Plant.examineStatus (e : Env) (p : Plant) : Plant :=
  let temps := p.validTemps
  let isOver := temps.any fun t => decide (e.tables.profile.cutoffTemp ≤ t)
  let high := temps.any fun t => decide (e.tables.profile.highTemp ≤ t)
  let began := isOver && !p.charge.overTemp
  let c := { p.charge with
    overTemp := isOver, highTemp := high
    boostInhibit := p.charge.boostInhibit && p.shortOfCharge e
    taperCurrent := p.taperCurrent e }
  (({ p with charge := c } : Plant).tempConds e).postIf began [.testAbort .abortedAlarm]

/-- How an EQUALIZE that ends leaves the equalize: pending again with the count stopped, or not
pending with the count restarted (05 R104). -/
inductive EqualizeEnd where
  | again
  | done
  deriving DecidableEq, Repr

/-- A transition an examination calls for. -/
inductive Transition where
  | to (s : PlantState)
  | endEqualize (s : PlantState) (how : EqualizeEnd)
  deriving DecidableEq, Repr

/-- The transition that the rules of the present plant state call for, after steps 1 to 3 (05 R94,
R96, R98, R104, R106). -/
def Plant.transition (e : Env) (p : Plant) : Option Transition :=
  let c := p.charge
  match c.state with
  | .startUp | .test | .discharge => none
  | .float =>
    if c.source == .none then some (.to .discharge)
    else if p.shortOfCharge e && !c.boostInhibit && !c.overTemp then some (.to .boost)
    else if c.equalizePending && p.equalizeReady e then some (.to .equalize)
    else none
  | .boost =>
    if c.source == .none then some (.to .discharge)
    else if c.overTemp then some (.to .float)
    else none
  | .equalize =>
    if c.source == .none then some (.endEqualize .discharge .again)
    else if c.overTemp then some (.endEqualize .float .done)
    else if p.validTemps.any fun t => decide (e.tables.profile.equalizeMaxTemp ≤ t) then
      some (.endEqualize .float .done)
    else if p.validTemps.isEmpty then some (.endEqualize .float .again)
    else if !sourceEqualizes e.tables.plant c.source then some (.endEqualize .float .again)
    else none

/-- A timer that runs exactly while a condition is found at examinations (05 R93). -/
def Timer.while (now length : Nat) (c : Bool) (t : Timer) : Timer :=
  if c then t.startIfStopped now length else .stopped

/-- The debounce and taper timers at an examination that makes no transition (05 R93). -/
def Plant.examineTimers (e : Env) (p : Plant) : Plant :=
  let c := p.charge
  let debounce := sec e.tables.plant.debounce
  let c :=
    match c.state with
    | .float | .equalize => { c with
        dischargeDebounce := c.dischargeDebounce.while e.now debounce (p.discharging e) }
    | .boost => { c with
        dischargeDebounce := c.dischargeDebounce.while e.now debounce (p.discharging e)
        taper := c.taper.while e.now (minutes e.tables.profile.taperHold) p.tapers }
    | .discharge => { c with
        recoveryDebounce := c.recoveryDebounce.while e.now debounce
          (c.source != .none && decide (0 ≤ p.battery.iBat)) }
    | .startUp | .test => c
  { p with charge := c }

/-- What leaving a plant state stops: its timers, the time they had run lost (05 R93). -/
def Charge.leave (c : Charge) : Charge :=
  { c with
    dischargeDebounce := .stopped, recoveryDebounce := .stopped
    startHold := .stopped, boost := .stopped, taper := .stopped, equalizeDuration := .stopped }

/-- What entering a plant state starts and clears (05 R93, R96, R98, R100, R102, R103). -/
def Charge.enter (x : Profile) (t : PlantTable) (now : Nat) (s : PlantState) (c : Charge) : Charge :=
  match s with
  | .boost => { c with
      boostInhibit := false, boostTimeout := false, boost := .running now (hours x.boostMax) }
  | .discharge => { c with boostInhibit := false }
  | .equalize => { c with
      equalizePending := false, equalizeCount := 0
      equalizeDuration := .running now (hours t.equalizeDuration) }
  | _ => c

/-- A change of plant state. CURRENT_LIMITING ends before the new state is handed (05 R107). The order of the
readers is a DESIGN CHOICE (log entry 65). -/
def Plant.changePlant (e : Env) (s : PlantState) (p : Plant) : Plant :=
  let p := p.setCond e 24 false
  let old := p.charge.state
  let c := { p.charge.leave with state := s, stateSince := e.now, trim := 0, stateChanged := true }
  let c := c.enter e.tables.profile e.tables.plant e.now s
  let p := ({ p with charge := c } : Plant).storeSetpoint e
  (p.post ([.rectPlant old s] ++ setpointReaders ++ [.genPlant old s, .ldExam, .chargeConds])).postIf
    (s != .test) [.examine]

/-- How an EQUALIZE that ends leaves the equalize (05 R104). -/
def Charge.endEqualize (how : EqualizeEnd) (c : Charge) : Charge :=
  match how with
  | .again => { c with equalizePending := true }
  | .done => { c with equalizePending := false, equalizeCount := 0 }

/-- Take a transition. -/
def Plant.take (e : Env) (t : Transition) (p : Plant) : Plant :=
  match t with
  | .to s => p.changePlant e s
  | .endEqualize s how => ({ p with charge := p.charge.endEqualize how } : Plant).changePlant e s

/-- An examination (05 R94). -/
def Plant.examine (e : Env) (p : Plant) : Plant :=
  let p := p.examineStatus e
  match p.transition e with
  | some t => p.take e t
  | none => p.examineTimers e

/-- What an evaluation does after its examination: I_lim is worked out, and unless the examination
changed the plant state, the trim step and the setpoint follow (05 R108, R111, R113). -/
def Plant.evaluationTail (e : Env) (p : Plant) : Plant :=
  let p := { p with charge := { p.charge with iLim := p.chargeLimit e } }
  if p.charge.stateChanged then p
  else ((p.trimStep e).workSetpoint e).post [.chargeConds]

/-! ### Expiries -/

/-- The evaluation timer expires (05 R108, 06 R118; log entry 24). -/
def Plant.evaluationExpired (e : Env) (p : Plant) : Plant :=
  let c := { p.charge with
    evaluation := .running e.now (sec e.tables.plant.evaluation), stateChanged := false }
  ({ p with charge := c }).post [.examine, .evaluationTail, .scheduledTest]

/-- The first state after START_UP (05 R95). -/
def Plant.firstState (e : Env) (p : Plant) : PlantState :=
  if p.charge.source == .none || p.discharging e then .discharge
  else if p.shortOfCharge e && !p.charge.boostInhibit && !p.charge.overTemp then .boost
  else .float

/-- The start-up hold expires (05 R95). -/
def Plant.startHoldExpired (e : Env) (p : Plant) : Plant :=
  if p.charge.state == .startUp then p.changePlant e (p.firstState e) else p

/-- The discharge debounce expires (05 R96, R104). -/
def Plant.dischargeDebounceExpired (e : Env) (p : Plant) : Plant :=
  match p.charge.state with
  | .float | .boost => p.changePlant e .discharge
  | .equalize => p.take e (.endEqualize .discharge .again)
  | _ => p

/-- The recovery debounce expires (05 R97). -/
def Plant.recoveryDebounceExpired (e : Env) (p : Plant) : Plant :=
  if p.charge.state == .discharge then
    p.changePlant e (if p.shortOfCharge e && !p.charge.overTemp then .boost else .float)
  else p

/-- The boost timer expires (05 R101). -/
def Plant.boostExpired (e : Env) (p : Plant) : Plant :=
  if p.charge.state == .boost then
    ({ p with charge := { p.charge with boostTimeout := true, boostInhibit := true } } : Plant).changePlant
      e .float
  else p

/-- The taper hold expires: a resynchronisation, then FLOAT (05 R100). -/
def Plant.taperExpired (p : Plant) : Plant :=
  if p.charge.state == .boost then p.post [.resync, .taperEnd] else p

/-- The move to FLOAT that follows the resynchronisation (05 R100). -/
def Plant.taperEnd (e : Env) (p : Plant) : Plant :=
  if p.charge.state == .boost then p.changePlant e .float else p

/-- The equalize duration expires (05 R104). -/
def Plant.equalizeDurationExpired (e : Env) (p : Plant) : Plant :=
  if p.charge.state == .equalize then p.take e (.endEqualize .float .done) else p

/-- The equalize interval count runs (05 R93, R102). -/
def Plant.equalizeCounts (e : Env) (p : Plant) : Bool :=
  e.tables.plant.equalizeInterval != 0 && !p.charge.equalizePending && p.charge.state != .equalize

/-- The equalize interval count expires (05 R93, R102; log entry 13). -/
def Plant.equalizeIntervalExpired (p : Plant) : Plant :=
  ({ p with charge := { p.charge with equalizePending := true, equalizeCount := 0 } })

/-- A change of mode as the controller takes it: in MANUAL the trim is 0; the setpoint is worked out
(05 R108, R111). -/
def Plant.chargeMode (e : Env) (p : Plant) : Plant :=
  let c := if e.mode == .manual then { p.charge with trim := 0 } else p.charge
  (({ p with charge := c } : Plant).workSetpoint e).post [.chargeConds]

end Sys2Proof.Machine
end

