-- ==== Sys2Proof/Machine/BatteryTest.lean ====
section
/-! DEFINITION. Battery test and load disconnect (06). -/

namespace Sys2Proof.Machine

/-! ### The test -/

/-- Whether a test runs. -/
def Test.runs (t : Test) : Bool := t.outcome == .running

/-- The start conditions of a test (06 R116). -/
def Plant.testMayStart (e : Env) (p : Plant) : Bool :=
  p.charge.state == .float && e.mode == .auto && p.charge.source == .mains && p.gen.run == .off &&
    (!p.reportingStrings.isEmpty && p.reportingStrings.all fun i => !p.strings[i].estimated) &&
    decide (e.tables.plant.testMinSoc ≤ p.battery.weakestSoc) &&
    !p.criticalActive e && p.ld.state == .connected

/-- The fail threshold of the PROFILE entry in force (06 R119, R121). -/
def Profile.failThreshold (x : Profile) : Nat := x.cells * x.testFailCell

/-- A test begins: TEST_FAILED ends before the plant moves to TEST (06 R119). -/
def Plant.testBegin (e : Env) (cause : TestCause) (p : Plant) : Plant :=
  let t := { p.test with
    outcome := .running, cause := cause, stamp := e.stamp, started := e.now, seconds := 0
    removed := 0, minBus := p.battery.busVoltage, failed := false, pending := false, count := 0
    threshold := e.tables.profile.failThreshold
    duration := .running e.now (minutes e.tables.plant.testDuration) }
  (({ p with test := t } : Plant).setCond e 17 false).changePlant e .test

/-- The seconds a test has run: elapsed while it runs, fixed at its end (06 R124). -/
def Test.secondsRun (now : Nat) (t : Test) : Nat :=
  if t.runs then (now - t.started) / 1000 else t.seconds

/-- A test's record at its end (06 R123 steps 1 to 3). -/
def Test.finish (now : Nat) (o : TestOutcome) (t : Test) : Test :=
  { t with
    duration := .stopped, seconds := t.secondsRun now, outcome := o
    failed := t.failed || o == .failed }

/-- A running test ends with an outcome: TEST_FAILED is handed, then the plant returns to FLOAT (06 R123). -/
def Plant.testEnd (e : Env) (o : TestOutcome) (p : Plant) : Plant :=
  if p.test.runs then
    let t := p.test.finish e.now o
    (({ p with test := t } : Plant).setCond e 17 t.failed).changePlant e .float
  else p

/-- A change of source as the test takes it (06 R122). -/
def Plant.testSource (e : Env) (p : Plant) : Plant :=
  if p.charge.source == .mains then p else p.testEnd e .abortedMains

/-- A change of run state as the test takes it (06 R122). -/
def Plant.testRun (e : Env) (p : Plant) : Plant :=
  if p.gen.run == .off then p else p.testEnd e .abortedGenerator

/-- A bus voltage as a running test takes it: the minimum, then the fail threshold (06 R120, R121). -/
def Plant.testVoltage (e : Env) (p : Plant) : Plant :=
  match p.test.runs, p.battery.busVoltage with
  | true, some v =>
    let m := match p.test.minBus with
      | some m => min m v
      | none => v
    let limit := e.tables.profile.failThreshold
    let p := { p with test := { p.test with minBus := some m, threshold := limit } }
    if v ≤ limit then p.testEnd e .failed else p
  | _, _ => p

/-- A change of a string's shortfall as a running test takes it (06 R120). -/
def Plant.testCharge (d : Int) (p : Plant) : Plant :=
  if p.test.runs then { p with test := { p.test with removed := p.test.removed + d } } else p

/-- A pending scheduled test is examined (06 R118). -/
def Plant.scheduledTest (e : Env) (p : Plant) : Plant :=
  if p.test.pending && p.testMayStart e then p.testBegin e .schedule else p

/-- The test interval count runs (06 R115). -/
def Plant.testCounts (e : Env) (p : Plant) : Bool :=
  e.tables.plant.testInterval != 0 && !p.test.pending

/-- The test interval count reaches the interval (06 R115, R118). -/
def Plant.testIntervalExpired (p : Plant) : Plant :=
  ({ p with test := { p.test with pending := true } }).post [.scheduledTest]

/-- Conditions 3, 17 and 31 (06 R123, R129, R130). That LOAD_DISCONNECTED is handed before LD_MISMATCH, where
one change of the LD output changes both, is a DESIGN CHOICE (log entry 57). -/
def Plant.testConds (e : Env) (p : Plant) : Plant :=
  ((p.setCond e 3 (p.ld.state == .disconnected)).setCond e 17 p.test.failed).setCond e 31
    p.ld.mismatch

/-! ### Load disconnect -/

/-- The voltage condition (06 R127). -/
def Plant.voltageLow (e : Env) (p : Plant) : Bool :=
  busIs p.battery.busVoltage fun v => decide (v ≤ e.tables.loadDisconnect.disconnectVoltage)

/-- Whether a generator start is under way (06 R127). -/
def RunState.starting : RunState → Bool
  | .cranking | .rest | .warmup => true
  | _ => false

/-- The SOC condition (06 R127). -/
def Plant.socLow (e : Env) (p : Plant) : Bool :=
  let x := e.tables.loadDisconnect
  x.disconnectSoc != 0 && p.charge.state == .discharge &&
    decide (p.battery.weakestSoc ≤ x.disconnectSoc) && !p.gen.run.starting

/-- The reconnect condition (06 R128). -/
def Plant.mayReconnect (e : Env) (p : Plant) : Bool :=
  (busIs p.battery.busVoltage fun v => decide (e.tables.loadDisconnect.reconnectVoltage ≤ v)) &&
    p.charge.source != .none

/-- A change of load-disconnect state, with the LD output (06 R127 to R129, 09 R184). The timers of
the state left stop; entering a pending state starts its delay. The order of what is handed on is a DESIGN
CHOICE (log entry 65). -/
def Plant.enterLd (e : Env) (s : LdState) (p : Plant) : Plant :=
  let x := e.tables.loadDisconnect
  let ld := { p.ld with
    state := s
    disconnect := if s == .disconnectPending then .running e.now (sec x.disconnectDelay) else .stopped
    reconnect := if s == .reconnectPending then .running e.now (sec x.reconnectDelay) else .stopped }
  let out := s == .disconnected
  let changed := p.outputs.ld != out
  let p := { p with ld := ld, outputs := { p.outputs with ld := out } }
  ((p.postIf changed [.ldCompare]).post [.testConds]).postIf out [.testAbort .abortedAlarm] |>.post
    [.ldExam]

/-- A load-disconnect examination (06 R127, R128). -/
def Plant.ldExam (e : Env) (p : Plant) : Plant :=
  match p.ld.state with
  | .connected => if p.voltageLow e || p.socLow e then p.enterLd e .disconnectPending else p
  | .disconnectPending => if p.voltageLow e || p.socLow e then p else p.enterLd e .connected
  | .disconnected => if p.mayReconnect e then p.enterLd e .reconnectPending else p
  | .reconnectPending =>
    if p.charge.source == .none || p.voltageLow e then p.enterLd e .disconnected
    else
      let t := p.ld.reconnect.while e.now (sec e.tables.loadDisconnect.reconnectDelay)
        (p.mayReconnect e)
      { p with ld := { p.ld with reconnect := t } }

/-- The disconnect delay expires (06 R127). -/
def Plant.disconnectExpired (e : Env) (p : Plant) : Plant :=
  if p.ld.state == .disconnectPending then p.enterLd e .disconnected else p

/-- The reconnect delay expires (06 R128). -/
def Plant.reconnectExpired (e : Env) (p : Plant) : Plant :=
  if p.ld.state == .reconnectPending then p.enterLd e .connected else p

/-- The contactor feedback is compared with the LD output (06 R130). -/
def Plant.ldCompare (e : Env) (p : Plant) : Plant :=
  let agree := !e.hasInput .ldFeedback || e.inputLevel .ldFeedback == p.outputs.ld
  let ld :=
    if agree then { p.ld with mismatchTimer := .stopped, mismatch := false }
    else { p.ld with mismatchTimer := p.ld.mismatchTimer.startIfStopped e.now (sec 5) }
  ({ p with ld := ld } : Plant).post [.testConds]

/-- The mismatch timer expires (06 R130). -/
def Plant.mismatchExpired (p : Plant) : Plant :=
  ({ p with ld := { p.ld with mismatch := true } }).post [.testConds]

end Sys2Proof.Machine
end

