-- ==== Sys2Proof/Machine/Rectifiers.lean ====
section
/-! DEFINITION. Rectifier duty unit (07). -/

namespace Sys2Proof.Machine

/-! ### Collections -/

/-- Whether a status is in the active set (07 R133). -/
def RectStatus.inSet : RectStatus → Bool
  | .active | .walkingIn => true
  | _ => false

/-- Whether a status stands in the duty list (07 R133). -/
def RectStatus.onDuty : RectStatus → Bool
  | .active | .walkingIn | .standby => true
  | _ => false

/-- A record's status. -/
def RectUnit.status (r : RectUnit) (u : RectIx) : RectStatus := r.records[u].status

/-- The active set, in duty order (07 R133). -/
def RectUnit.activeSet (r : RectUnit) : List RectIx := r.duty.filter fun u => (r.status u).inSet

/-- The STANDBY records, in duty order. -/
def RectUnit.standbys (r : RectUnit) : List RectIx := r.duty.filter fun u => r.status u == .standby

/-- Set a record's status. -/
def RectUnit.setStatus (u : RectIx) (s : RectStatus) (r : RectUnit) : RectUnit :=
  r.modify u fun x => { x with status := s }

/-- Remove a record from the walk-in queue; the stagger timer stops when the queue empties (07 R145). -/
def RectUnit.unqueue (u : RectIx) (r : RectUnit) : RectUnit :=
  let q := r.walkIn.filter fun v => v != u
  { r with walkIn := q, stagger := if q.isEmpty then .stopped else r.stagger }

/-- Take a record out of its collections. -/
def RectUnit.remove (u : RectIx) (r : RectUnit) : RectUnit :=
  { r.unqueue u with
    duty := r.duty.filter fun v => v != u
    out := r.out.filter fun v => v != u }

/-- A record joins the duty list at its tail with a status (07 R133). -/
def RectUnit.joinDuty (u : RectIx) (s : RectStatus) (r : RectUnit) : RectUnit :=
  let r := (r.remove u).setStatus u s
  { r with duty := r.duty ++ [u] }

/-- A record's timers stop. -/
def RectRec.stopTimers (x : RectRec) : RectRec := { x with follow := .stopped, recovery := .stopped }

/-- A record joins the out-of-service set with a status, its timers stopped (07 R133). -/
def RectUnit.joinOut (u : RectIx) (s : RectStatus) (r : RectUnit) : RectUnit :=
  let r := ((r.remove u).setStatus u s).modify u RectRec.stopTimers
  { r with out := r.out ++ [u] }

/-- A record leaves both collections for ABSENT or DISCOVERING, its timers stopped (07 R134). -/
def RectUnit.leave (u : RectIx) (s : RectStatus) (r : RectUnit) : RectUnit :=
  ((r.remove u).setStatus u s).modify u RectRec.stopTimers

/-- A rotation in flight ends when its incoming rectifier is the record (07 R149). -/
def RectUnit.endRotationOf (u : RectIx) (r : RectUnit) : RectUnit :=
  if r.inFlight == some u then { r with inFlight := none } else r

/-- A rotation in flight ends with its incoming rectifier staying ACTIVE: the target becomes N (07 R149). -/
def RectUnit.endRotationKeep (r : RectUnit) : RectUnit :=
  if r.inFlight.isSome then { r with inFlight := none, target := r.activeSet.length } else r

/-- The plant with its rectifier duty unit changed. -/
def Plant.onRect (f : RectUnit → RectUnit) (p : Plant) : Plant := { p with rect := f p.rect }

/-! ### Orders -/

/-- Offer a SET_STATE to a rectifier's station, in AUTO outside START_UP (07 R150). -/
def Plant.offerState (e : Env) (u : RectIx) (active : Bool) (p : Plant) : Plant :=
  if p.canOrder e then
    match e.rectStation u with
    | some st => p.offer ⟨st, .setState active, 0, .rect u⟩
    | none => p
  else p

/-- The current limit of an ACTIVE record; none when nothing is composed (07 R151). That nothing is composed
for a record that holds no last report is a DESIGN CHOICE (log entry 47). -/
def Plant.limitFor (p : Plant) (u : RectIx) : Option Nat :=
  match p.rect.records[u].report with
  | none => none
  | some r =>
    match p.gen.allowance with
    | none => some r.rated
    | some a => if p.activeCount = 0 then none else some (min r.rated (a / p.activeCount))

/-- Whether a SET_OUTPUT is composed for a record (07 R152). That a deadband of 0 composes at every event, where
the value equals the last one composed too, is a DESIGN CHOICE (log entry 51). -/
def composes (t : PlantTable) (forced : Bool) (last : Option (Nat × Nat)) (v l : Nat) : Bool :=
  match last with
  | none => true
  | some (lv, ll) =>
    forced || decide (t.voltageDeadband ≤ (v - lv) + (lv - v)) || decide (l < ll) ||
      decide (ll + t.currentDeadband ≤ l)

/-- The SET_OUTPUT order of one ACTIVE record worked out (07 R152). -/
def Plant.composeOne (e : Env) (forced : List RectIx) (p : Plant) (u : RectIx) : Plant :=
  match p.limitFor u with
  | none => p
  | some l =>
    let v := p.charge.setpoint
    if composes e.tables.plant (forced.contains u) p.rect.records[u].composed v l then
      let p := p.modifyRect u fun x => { x with composed := some (v, l) }
      match e.rectStation u with
      | some st => p.offer ⟨st, .setOutput v l, 0, .rect u⟩
      | none => p
    else p

/-- The SET_OUTPUT orders of every ACTIVE record worked out, in duty order (07 R152; log entry 22). -/
def Plant.compose (e : Env) (forced : List RectIx) (p : Plant) : Plant :=
  if p.canOrder e then p.activeRects.foldl (Plant.composeOne e forced) p else p

/-- What a change of the active set hands on: the bus voltage and the SET_OUTPUT orders (07 R144, R152), in an
order that is a DESIGN CHOICE (log entry 65). -/
def activeSetReaders (forced : List RectIx) : List Signal := [.busVoltage, .compose forced]

/-! ### Walk-in -/

/-- The stagger interval for a source (07 R145). -/
def staggerFor (t : RectTable) (s : Source) : Nat :=
  sec (if s == .mains then t.staggerMains else t.staggerGenerator)

/-- The stagger timer starts with the interval for a source (07 R145). -/
def RectUnit.startStagger (t : RectTable) (now : Nat) (s : Source) (r : RectUnit) : RectUnit :=
  { r with stagger := .running now (staggerFor t s), staggerMains := s == .mains }

/-- A record joins the walk-in queue as WALKING_IN; the stagger timer starts when it is stopped (07 R145). -/
def RectUnit.enqueue (t : RectTable) (now : Nat) (s : Source) (u : RectIx) (r : RectUnit) : RectUnit :=
  let r := (r.unqueue u).setStatus u .walkingIn
  let r := { r with walkIn := r.walkIn ++ [u] }
  if r.stagger.isRunning then r else r.startStagger t now s

/-- A record of the duty list becomes ACTIVE, and its orders are offered (07 R145, R150). That its SET_OUTPUT is
composed after every SET_STATE of the same action, where several records become ACTIVE in one, is a DESIGN
CHOICE (07 R146; log entry 66). -/
def Plant.becomeActive (e : Env) (u : RectIx) (p : Plant) : Plant :=
  let p := p.onRect fun r => (r.unqueue u).setStatus u .active
  (p.offerState e u true).post (activeSetReaders [u])

/-- A record joins the walk-in (07 R145). -/
def Plant.joinWalkIn (e : Env) (p : Plant) (u : RectIx) : Plant :=
  if p.charge.source == .none || p.activeCount = 0 then p.becomeActive e u
  else p.onRect (RectUnit.enqueue e.tables.rectifier e.now p.charge.source u)

/-- A record of the active set becomes STANDBY in its place; an ACTIVE one is ordered to (07 R144). -/
def Plant.demote (e : Env) (p : Plant) (u : RectIx) : Plant :=
  let wasActive := p.rect.status u == .active
  let p := p.onRect fun r => (r.unqueue u).setStatus u .standby
  if wasActive then p.offerState e u false else p

/-- The stagger timer expires (07 R145). -/
def Plant.staggerExpired (e : Env) (p : Plant) : Plant :=
  match p.rect.walkIn with
  | [] => p
  | u :: _ =>
    let p := p.becomeActive e u
    if p.rect.walkIn.isEmpty then p
    else p.onRect (RectUnit.startStagger e.tables.rectifier e.now p.charge.source)

/-! ### Sizing -/

/-- The smallest rated current among the last reports of some records; 0 when there is none. -/
def RectUnit.smallestRated (r : RectUnit) : List RectIx → Nat
  | [] => 0
  | u :: us =>
    match r.records[u].report with
    | none => r.smallestRated us
    | some x =>
      let rest := r.smallestRated us
      if rest = 0 then x.rated else min x.rated rest

/-- The sum of the output currents of the ACTIVE records' last reports, where they hold one (07 R143; log entry 47). -/
def Plant.outputCurrent (p : Plant) : Nat :=
  (p.activeRects.map fun u =>
    match p.rect.records[u].report with
    | some x => x.current
    | none => 0).sum

/-- What a sizing step works out: the target before the floor, whether the raise test applied, and Q (07 R143). -/
structure Sizing where
  target : Nat
  raised : Bool
  required : Nat
  shedHolds : Bool
  deriving DecidableEq, Repr

/-- The load rules of a sizing step, with E above 0 (07 R143). `due` says that the shed timer has
expired at or before this step. -/
def sizeByLoad (t : RectTable) (rated iOut n eligible : Nat) (due : Bool) : Sizing :=
  let r := t.redundancy
  let load := iOut * 100
  let required := quotient (load + rated * t.shareHigh - 1) (rated * t.shareHigh) + r
  if (load : Int) > ((n : Int) - r) * rated * t.shareHigh ∨ (n ≤ r ∧ 0 < iOut) then
    ⟨min eligible required, true, required, false⟩
  else if t.nMin < n ∧ r + 2 ≤ n ∧ load < (n - 1 - r) * rated * t.shareLow then
    ⟨if due then n - 1 else n, false, required, true⟩
  else ⟨n, false, required, false⟩

/-- The target raised to the floor and lowered to E (07 R142). -/
def floorTarget (t : RectTable) (eligible target : Nat) : Nat :=
  min (max target (min t.nMin eligible)) eligible

/-- The target of a sizing step with SHORT_CAPACITY and the shed timer worked out (07 R142, R143). -/
def Plant.workTarget (e : Env) (p : Plant) : Plant × Nat :=
  let r := p.rect
  let t := e.tables.rectifier
  let eligible := r.duty.length
  let fed := p.charge.source != .none
  if p.charge.state != .float || p.charge.source != .mains then
    (p.onRect fun r => { r with shortCapacity := fed && eligible == 0 }, eligible)
  else if eligible = 0 then
    (p.onRect fun r => { r with shortCapacity := fed, shed := .stopped, shedDue := false }, 0)
  else
    let due := r.shedDue || r.shed.isOver e.now
    let z := sizeByLoad t (r.smallestRated r.duty) p.outputCurrent r.activeSet.length eligible due
    let p := p.onRect fun r => { r with
      shortCapacity := fed && z.raised && decide (eligible < z.required)
      shed := if z.shedHolds && !due then r.shed.startIfStopped e.now (sec t.shedDelay) else .stopped
      shedDue := false }
    (p, floorTarget t eligible z.target)

/-- A target is applied against the active set as it stands, the records that snooped CONFIRMs made ACTIVE
during START_UP among it (07 R144; log entry 40). -/
def Plant.applyTarget (e : Env) (target : Nat) (p : Plant) : Plant :=
  let set := p.rect.activeSet
  let n := set.length
  let p :=
    if n < target then (p.rect.standbys.take (target - n)).foldl (Plant.joinWalkIn e) p
    else (set.reverse.take (n - target)).foldl (Plant.demote e) p
  (p.onRect fun r => { r with target := target }).postIf (n != target) (activeSetReaders [])

/-- An active set that has fallen below the target is filled up to it, in AUTO outside START_UP (07 R138
step 3, R142; log entry 37). -/
def Plant.raiseToTarget (e : Env) (p : Plant) : Plant :=
  if p.canOrder e && decide (p.rect.activeSet.length < p.rect.target) then p.applyTarget e p.rect.target
  else p

/-- The state a status calls for at a reconciliation (07 R150). -/
def RectStatus.calledState : RectStatus → Option Bool
  | .active => some true
  | .walkingIn | .standby => some false
  | _ => none

/-- One record's reconciliation (07 R150). -/
def Plant.reconcileOne (e : Env) (p : Plant) (u : RectIx) : Plant :=
  match (p.rect.status u).calledState with
  | none => p
  | some a => if p.rect.records[u].commanded == some a then p else p.offerState e u a

/-- The reconciliation of a sizing step (07 R150). That it goes through the duty list from its head is a DESIGN
CHOICE (log entry 58). -/
def Plant.reconcile (e : Env) (p : Plant) : Plant := p.rect.duty.foldl (Plant.reconcileOne e) p

/-- A sizing step, in AUTO outside START_UP with no rotation in flight: the target is applied, with the
SET_OUTPUT orders of R144, and the reconciliation follows (07 R142). -/
def Plant.sizingStep (e : Env) (p : Plant) : Plant :=
  if p.canOrder e && p.rect.inFlight.isNone then
    let w := p.workTarget e
    (w.1.applyTarget e w.2).post [.reconcile, .rectConds]
  else p

/-- The floor of R142 between sizing steps. -/
def Plant.applyFloor (e : Env) (p : Plant) : Plant :=
  let low := min e.tables.rectifier.nMin p.rect.duty.length
  if p.canOrder e && decide (p.rect.target < low) then p.applyTarget e low else p

/-- The sizing timer expires: a sizing step, then a pending rotation is examined (07 R142, R147). That the
step comes first is a DESIGN CHOICE (log entry 46). -/
def Plant.sizingExpired (e : Env) (p : Plant) : Plant :=
  (p.onRect fun r => { r with sizing := .running e.now (sec e.tables.rectifier.sizingPeriod) }).post
    ([.sizingStep] ++ if e.mode == .auto then [.rotationExam] else [])

/-- The shed timer expires (07 R143). -/
def Plant.shedExpired (p : Plant) : Plant := p.onRect fun r => { r with shedDue := true }

/-! ### Refill, faults, lockout and recovery -/

/-- The record that a refill promotes: the head of the walk-in queue, otherwise the first STANDBY (07 R138). -/
def RectUnit.promotion (r : RectUnit) : Option RectIx :=
  match r.walkIn with
  | u :: _ => some u
  | [] => r.standbys.head?

/-- The active set is refilled after a record has left it (07 R138). -/
def Plant.refill (e : Env) (wasActive : Bool) (p : Plant) : Plant :=
  if p.canOrder e then
    let p := p.onRect fun r => { r with target := min r.target r.duty.length }
    let p :=
      if wasActive && decide (p.rect.activeSet.length < p.rect.target) then
        match p.rect.promotion with
        | some u => p.becomeActive e u
        | none => p
      else p
    let p := (p.rect.standbys.take (p.rect.target - p.rect.activeSet.length)).foldl
      (Plant.joinWalkIn e) p
    p.post (activeSetReaders [])
  else p.post [.busVoltage]

/-- What follows when a record has left its place: the refill when it was in the active set, and the
conditions, in that order, a DESIGN CHOICE (07 R138, R154; log entry 65). -/
def leftReaders (s : RectStatus) : List Signal :=
  (if s.inSet then [.refill (s == .active)] else []) ++ [.rectConds]

/-- The fault history after a fault entry (07 R137 step 1). -/
def historyAfter (now window : Nat) (h : List Nat) : List Nat :=
  let kept := h.filter (fun t => decide (now - t ≤ window)) ++ [now]
  kept.drop (kept.length - 3)

/-- A fault entry (07 R137). -/
def Plant.faultEntry (e : Env) (u : RectIx) (cause : FaultCause) (p : Plant) : Plant :=
  let old := p.rect.status u
  let h := historyAfter e.now (hours e.tables.rectifier.lockoutWindow) p.rect.records[u].history
  let s := if h.length = 3 then RectStatus.lockedOut else .faulted
  let p := p.onRect fun r =>
    ((r.joinOut u s).modify u fun x => { x with history := h, lastCause := cause }).endRotationOf u
  (p.offerState e u false).post (leftReaders old)

/-- The follow timer expires (07 R139). -/
def Plant.followExpired (e : Env) (u : RectIx) (p : Plant) : Plant :=
  if (p.rect.status u).onDuty then p.faultEntry e u .notFollowing else p

/-- The follow check at a report (07 R139). -/
def RectRec.followCheck (now length : Nat) (r : RectReport) (x : RectRec) : RectRec :=
  match x.commanded with
  | none => x
  | some c => { x with follow := x.follow.while now length (r.acOk && r.outputOn != c) }

/-- The recovery timer after a report or a link change (07 R140). -/
def RectRec.recoveryCheck (now length : Nat) (link : LinkStatus) (x : RectRec) : RectRec :=
  let healthy := match x.report with
    | some r => r.fault == 0
    | none => false
  if x.status == .faulted || x.status == .lost then
    { x with recovery := x.recovery.while now length (link == .reporting && healthy) }
  else x

/-- A record is checked for recovery against its station's link status (07 R140). -/
def Plant.checkRecovery (e : Env) (u : RectIx) (p : Plant) : Plant :=
  p.modifyRect u (RectRec.recoveryCheck e.now (sec e.tables.rectifier.recoveryTime)
    (p.linkOf (e.rectStation u)))

/-- A record joins the duty list as STANDBY (07 R133, R140, R142). -/
def Plant.joinStandby (u : RectIx) (p : Plant) : Plant :=
  (p.onRect fun r => (r.joinDuty u .standby).modify u RectRec.stopTimers).post [.floor, .rectConds]

/-- The recovery timer expires (07 R140). -/
def Plant.recoveryExpired (u : RectIx) (p : Plant) : Plant :=
  match p.rect.status u with
  | .faulted | .lost => p.joinStandby u
  | _ => p

/-! ### Reports and notices -/

/-- A report applied to a record's status (07 R135 step 2). -/
def Plant.applyReport (e : Env) (u : RectIx) (r : RectReport) (p : Plant) : Plant :=
  match p.rect.status u with
  | .discovering => if r.fault = 0 then p.joinStandby u else p.faultEntry e u .reported
  | .active | .walkingIn | .standby =>
    if r.fault = 0 then
      p.modifyRect u (RectRec.followCheck e.now (sec e.tables.rectifier.followTime) r)
    else p.faultEntry e u .reported
  | .lost => if r.fault = 0 then p.checkRecovery e u else p.faultEntry e u .reported
  | .faulted => p.checkRecovery e u
  | .lockedOut | .absent => p

/-- A rectifier report is taken (07 R135). That the indication of 08 R173 is worked out after the source and
before the conditions is a DESIGN CHOICE (log entries 62 and 65). -/
def Plant.rectReport (e : Env) (u : RectIx) (r : RectReport) (p : Plant) : Plant :=
  let rated := p.rect.records[u].report.map (·.rated)
  let p := (p.modifyRect u fun x => { x with report := some r }).applyReport e u r
  let active := p.rect.status u == .active
  let p := p.postIf active [.busVoltage]
  let p := p.postIf (active && rated != some r.rated) [.compose []]
  p.post [.workSource, .indication, .rectConds]

/-- A notice of a rectifier's station is taken (07 R134). After a map change the record is cleared as
well, because a different module may hold the index. -/
def Plant.rectNotice (e : Env) (u : RectIx) (n : UnitNotice) (p : Plant) : Plant :=
  let old := p.rect.status u
  match n with
  | .discovering =>
    (p.onRect fun r => ((r.leave u .discovering).modify u fun x => { x with
      commanded := none, composed := none, report := none, decline := none
      history := [], minutes := 0, carry := 0, lastCause := .none }).endRotationOf u).post
      (leftReaders old)
  | .absent => (p.onRect fun r => (r.leave u .absent).endRotationOf u).post (leftReaders old)
  | .lost =>
    match old with
    | .lockedOut | .absent => p
    | _ => (p.onRect fun r => (r.joinOut u .lost).endRotationOf u).post (leftReaders old)
  | .reporting => p.checkRecovery e u

/-! ### Changes of source, plant state, run state and mode -/

/-- A change of source (07 R143, R146, R149). That SHORT_CAPACITY stays as last worked out at a change to
NONE, until the next sizing step finds it not to hold, is a DESIGN CHOICE: R143 works it out at each step and
also says that it does not hold while the source is NONE (log entry 55). -/
def Plant.rectSource (e : Env) (old new : Source) (p : Plant) : Plant :=
  let p := p.onRect fun r => { r with shed := .stopped, shedDue := false }
  let p := if new == .mains then p else p.onRect RectUnit.endRotationKeep
  if p.canOrder e then
    if new == .none then
      (p.rect.activeSet.filter fun u => p.rect.status u == .walkingIn).foldl
        (fun p u => p.becomeActive e u) p
    else if old == .none then
      let rest := p.activeRects.filter fun u => some u != p.rect.duty.head?
      let p := rest.foldl (fun p u =>
        (p.onRect (RectUnit.enqueue e.tables.rectifier e.now new u)).offerState e u false) p
      p.postIf (!rest.isEmpty) (activeSetReaders [])
    else p
  else p

/-- A change of plant state (07 R143, R144, R149). -/
def Plant.rectPlant (e : Env) (old new : PlantState) (p : Plant) : Plant :=
  let p := p.onRect fun r => { r with shed := .stopped, shedDue := false }
  let p := if new == .float then p else p.onRect RectUnit.endRotationKeep
  if old == .startUp && new != .startUp then
    (p.onRect fun r => { r with
      sizing := .running e.now (sec e.tables.rectifier.sizingPeriod)
      refresh := .running e.now (sec e.tables.plant.refresh) }).post [.sizingStep]
  else p

/-- A change of run state (07 R149). -/
def Plant.rectRun (p : Plant) : Plant :=
  if p.gen.run == .off then p else p.onRect RectUnit.endRotationKeep

/-- A duty record is offered the SET_STATE its status calls for (07 R153 step 4; log entry 35). -/
def Plant.offerCalled (e : Env) (p : Plant) (u : RectIx) : Plant :=
  match (p.rect.status u).calledState with
  | none => p
  | some a => p.offerState e u a

/-- The return to AUTO re-imposes the duty list (03 R58, 07 R153). That each step goes through the records in
duty order is a DESIGN CHOICE (log entry 58), and so is that the SET_OUTPUT of a head made ACTIVE in step 2 is
composed after the SET_STATE offers of step 4 (log entry 66). -/
def Plant.reimpose (e : Env) (p : Plant) : Plant :=
  let w := (p.onRect fun r => { r with shed := .stopped, shedDue := false }).workTarget e
  let p := w.1
  let first := p.rect.duty.take w.2
  let rest := p.rect.duty.drop w.2
  let p := if first.any fun u => p.rect.status u == .active then p
    else match first with
      | u :: _ => p.becomeActive e u
      | [] => p
  let p := (first.filter fun u => p.rect.status u != .active).foldl (Plant.joinWalkIn e) p
  let p := (rest.filter fun u => (p.rect.status u).inSet).foldl (Plant.demote e) p
  let p := p.onRect fun r => { r with target := w.2 }
  let p := p.rect.duty.foldl (Plant.offerCalled e) p
  p.post [.busVoltage, .compose (indices 12), .rectConds]

/-- The change to MANUAL (07 R149, R153). -/
def Plant.rectManual (p : Plant) : Plant :=
  let settle (r : RectUnit) (u : RectIx) : RectUnit :=
    if r.status u == .walkingIn then
      r.setStatus u (if r.records[u].commanded == some true then .active else .standby)
    else r
  let clear (r : RectUnit) (u : RectIx) : RectUnit := r.modify u fun x => { x with composed := none }
  let p := p.onRect fun r =>
    let r := (indices 12).foldl settle r
    let r := (indices 12).foldl clear r
    { r with walkIn := [], stagger := .stopped, shed := .stopped, shedDue := false }
  (p.onRect RectUnit.endRotationKeep).post [.busVoltage, .rectConds]

/-- A change of mode (07 R153). -/
def Plant.rectMode (e : Env) (p : Plant) : Plant :=
  if e.mode == .manual then p.rectManual
  else if p.charge.state == .startUp then p
  else p.reimpose e

/-- The refresh timer expires (07 R152). -/
def Plant.refreshExpired (e : Env) (p : Plant) : Plant :=
  (p.onRect fun r => { r with refresh := .running e.now (sec e.tables.plant.refresh) }).post
    [.compose (indices 12)]

/-! ### Rotation -/

/-- The conditions of R147 under which the rotation count runs, but for the interval and the pending rotation. -/
def Plant.rotationQuiet (e : Env) (p : Plant) : Bool :=
  p.charge.state == .float && e.mode == .auto && p.charge.source == .mains &&
    p.rect.walkIn.isEmpty && p.gen.run == .off && p.rect.inFlight.isNone

/-- The rotation count runs (07 R147). -/
def Plant.rotationCounts (e : Env) (p : Plant) : Bool :=
  p.rotationQuiet e && e.tables.rectifier.rotationInterval != 0 && !p.rect.rotationPending

/-- A pending rotation is examined, and starts when its conditions hold (07 R147, R148). -/
def Plant.rotationExam (e : Env) (p : Plant) : Plant :=
  if p.rect.rotationPending && p.rotationQuiet e then
    match p.rect.standbys.head? with
    | some u => (p.onRect fun r => { r with inFlight := some u }).becomeActive e u
    | none => p
  else p

/-- The rotation count reaches the interval (07 R147). -/
def Plant.rotationExpired (p : Plant) : Plant :=
  (p.onRect fun r => { r with rotationPending := true }).post [.rotationExam]

/-- The rotation in flight commits (07 R148). When a record has left the active set during the rotation,
the target is applied again (log entry 37). -/
def Plant.rotationCommit (e : Env) (u : RectIx) (p : Plant) : Plant :=
  let p := p.onRect fun r => { r with inFlight := none, rotationPending := false, rotationCount := 0 }
  match p.rect.duty with
  | h :: rest =>
    if h == u then p
    else
      let p := p.onRect fun r => { (r.unqueue h).setStatus h .standby with duty := rest ++ [h] }
      ((p.offerState e h false).post (activeSetReaders [])).raiseToTarget e
  | [] => p

/-! ### The engine's reports on the unit's orders -/

/-- Whether a report on an order still applies to its record (07 R150). -/
def RectStatus.takesReports : RectStatus → Bool
  | .absent | .discovering => false
  | _ => true

/-- An order was confirmed (07 R150). That the confirm of a SET_STATE of the part's own, taken in MANUAL, sets
the commanded state and leaves the status is a DESIGN CHOICE (log entry 64). -/
def Plant.rectConfirmed (e : Env) (u : RectIx) (b : OrderBody) (p : Plant) : Plant :=
  if (p.rect.status u).takesReports then
    match b with
    | .setState a =>
      let p := p.modifyRect u fun x => { x with commanded := some a, follow := .stopped }
      if a && p.rect.inFlight == some u then p.rotationCommit e u else p
    | _ => p
  else p

/-- An order was declined (07 R150). -/
def Plant.rectDeclined (e : Env) (u : RectIx) (b : OrderBody) (reason : Nat) (p : Plant) : Plant :=
  if (p.rect.status u).takesReports then
    let p := p.modifyRect u fun x => { x with decline := some reason }
    match b with
    | .setState _ => if (p.rect.status u).onDuty then p.faultEntry e u .declined else p
    | _ => p
  else p

/-- An order was dropped unanswered (07 R149, R150). -/
def Plant.rectDropped (e : Env) (u : RectIx) (b : OrderBody) (p : Plant) : Plant :=
  if (p.rect.status u).takesReports && b == .setState true && p.rect.inFlight == some u then
    let p := p.onRect fun r => { (r.unqueue u).setStatus u .standby with inFlight := none }
    ((p.offerState e u false).post (activeSetReaders [])).raiseToTarget e
  else p

/-- A relayed SET_STATE was confirmed; the follow timer stops at a change of the commanded state
(02 R40, 07 R139, R153). -/
def Plant.snooped (e : Env) (u : RectIx) (a : Bool) (p : Plant) : Plant :=
  let p := p.modifyRect u fun x =>
    { x with commanded := some a
             follow := if x.commanded == some a then x.follow else .stopped }
  match e.mode, p.rect.status u with
  | .manual, .active | .manual, .standby =>
    (p.onRect fun r => r.setStatus u (if a then .active else .standby)).post [.busVoltage, .rectConds]
  | _, _ => p

/-! ### Conditions -/

/-- The number of records in a status. -/
def RectUnit.count (s : RectStatus) (r : RectUnit) : Nat :=
  (indices 12).countP fun u => r.status u == s

/-- Conditions 6 to 9 (07 R154); their order is a DESIGN CHOICE (log entry 57). -/
def Plant.rectConds (e : Env) (p : Plant) : Plant :=
  let faulted := p.rect.count .faulted
  let lost := p.rect.count .lost
  let p := p.setCond e 6 (decide (0 < faulted))
  let p := p.setCond e 7 (decide (2 ≤ faulted + lost))
  let p := p.setCond e 8 (decide (0 < lost))
  p.setCond e 9 p.rect.shortCapacity

end Sys2Proof.Machine
end

