-- ==== Sys2Proof/Machine/Generator.lean ====
section
/-! DEFINITION. Generator run unit (08). -/

namespace Sys2Proof.Machine

/-- The plant with its generator run unit changed. -/
def Plant.onGen (f : GenUnit → GenUnit) (p : Plant) : Plant := { p with gen := f p.gen }

/-- The start-reason set is empty. -/
def Reasons.isEmpty (r : Reasons) : Bool :=
  !r.lowVoltage && !r.lowSoc && !r.dischargeTime && !r.exercise && !r.manual

/-- Whether GEN RUN is energized in a run state (08 R174). -/
def RunState.energized : RunState → Bool
  | .cranking | .warmup | .onLoad | .cooldown => true
  | _ => false

/-- Contact-only operation: the record is not REPORTING, be it ABSENT, DISCOVERING or LOST and the set fitted
or not (08 R158, R176; log entry 41). -/
def GenUnit.contactOnly (g : GenUnit) : Bool := g.status != .reporting

/-- The run time, ms (08 R168). -/
def GenUnit.runMs (now : Nat) (g : GenUnit) : Nat :=
  match g.runStart with
  | some t => now - t
  | none => g.runTime

/-! ### Engine orders -/

/-- Offer an ENGINE order, while the station is REPORTING (08 R172). -/
def Plant.offerEngine (e : Env) (a : EngineAction) (p : Plant) : Plant :=
  if p.gen.contactOnly then p
  else
    match e.gensetStation with
    | some st => p.offer ⟨st, .engine a, 0, .gen⟩
    | none => p

/-! ### Allowance -/

/-- The allowance of a run state at a setpoint, dA (08 R175). -/
def GensetTable.allowanceAt (t : GensetTable) (run : RunState) (setpoint : Nat) : Option Nat :=
  let pdc := t.ratedOutput * 1000 * t.derate * t.conversion / 10000
  let full := quotient (pdc * 10000) setpoint
  match run with
  | .onLoad => some full
  | .cooldown => some (full * t.cooldownLimit / 100)
  | _ => none

/-- The allowance worked out; a new value, a start or an end is handed to the rectifier duty unit (08 R175). -/
def Plant.workAllowance (e : Env) (p : Plant) : Plant :=
  let a := e.tables.genset.allowanceAt p.gen.run p.charge.setpoint
  (p.onGen fun g => { g with allowance := a }).postIf (p.gen.allowance != a) [.compose []]

/-! ### Conditions -/

/-- The fuel conditions from the last report (08 R160). -/
def fuelAt (limit : Nat) (r : Option (GensetReport × Nat)) : Bool :=
  match r with
  | some (x, _) => decide (x.fuel ≤ limit)
  | none => false

/-- The fuel conditions worked out; when GEN_FUEL_CRITICAL begins an EXERCISE reason is removed and the
exercise falls due again (08 R160, R163); the order of what is handed on is a DESIGN CHOICE (log entry 65). -/
def Plant.workFuel (e : Env) (p : Plant) : Plant :=
  let critical := fuelAt e.tables.genset.fuelCritical p.gen.report
  let began := critical && !p.gen.fuelCritical && p.gen.reasons.exercise
  (p.onGen fun g => { g with
    fuelLow := fuelAt e.tables.genset.fuelLow g.report
    fuelCritical := critical
    reasons := if began then { g.reasons with exercise := false } else g.reasons
    exerciseDue := g.exerciseDue || began }).post [.genConds, .exerciseCheck, .actOnReasons]

/-- Whether the last report carries a fault code (08 R158). -/
def GenUnit.hasFaultCode (g : GenUnit) : Bool :=
  match g.report with
  | some (x, _) => x.fault != 0
  | none => false

/-- Conditions 18 to 23 (08 R160, R170, R174); their order is a DESIGN CHOICE (log entry 57). -/
def Plant.genConds (e : Env) (p : Plant) : Plant :=
  let g := p.gen
  let p := p.setCond e 18 g.startFailed
  let p := p.setCond e 19 g.run.feeds
  let p := p.setCond e 20 g.fuelLow
  let p := p.setCond e 21 g.fuelCritical
  let p := p.setCond e 22
    (e.tables.genset.fitted && (g.status == .lost || g.status == .absent))
  p.setCond e 23 (g.hasFaultCode || g.engineFailure)

/-! ### Run states -/

/-- The run unit with the timers of the state left stopped and the marks of that state cleared (08 R166, R172). -/
def GenUnit.leaveState (g : GenUnit) : GenUnit :=
  { g with
    crank := .stopped, rest := .stopped, warmup := .stopped, warmupSecond := .stopped
    cooldown := .stopped, stopConfirm := .stopped, retry := .stopped
    retryDue := false, mainsMark := false, dropped := none }

/-- The run time stops (08 R168). -/
def GenUnit.stopRun (now : Nat) (g : GenUnit) : GenUnit :=
  { g with runTime := g.runMs now, runStart := none }

/-- What entering a run state starts (08 R165 to R170). -/
def GenUnit.enterState (t : GensetTable) (now : Nat) (s : RunState) (g : GenUnit) : GenUnit :=
  match s with
  | .cranking => { g with crank := .running now (sec t.crankTime) }
  | .rest => { g with rest := .running now (sec t.rest) }
  | .warmup => { g with warmup := .running now (sec t.warmup) }
  | .onLoad =>
    if g.loaded then g
    else { g with
      loaded := true, runStart := some now, runTime := 0
      startFailed := false, engineFailure := false, failedSinceRun := false }
  | .cooldown => { g with cooldown := .running now (sec t.cooldown) }
  | .stopping => { g.stopRun now with stopConfirm := .running now (sec t.stopConfirm) }
  | .failed =>
    { g.stopRun now with
      retry := if t.retryInterval = 0 then .stopped else .running now (sec t.retryInterval) }
  | .lockedOut => g.stopRun now
  | .off => { g with runStart := none, runTime := 0 }
  | .disabled => g.stopRun now

/-- A change of run state: GEN RUN, the allowance, and the neighbours (08 R174), whose order is a DESIGN CHOICE
(log entry 65). -/
def Plant.enterRun (e : Env) (s : RunState) (p : Plant) : Plant :=
  let p := p.onGen fun g =>
    ({ g.leaveState with run := s, since := e.now } : GenUnit).enterState e.tables.genset e.now s
  let p := { p with outputs := { p.outputs with genRun := s.energized } }
  let p := p.workAllowance e
  let p := if s == .cranking then p.offerEngine e .start else p
  p.post [.workSource, .testRun, .ldExam, .rectRun, .genConds, .exerciseCheck, .actOnReasons]

/-- A move to CRANKING with an attempt count; a count of 1 begins a start cycle (08 R165). -/
def Plant.enterCranking (e : Env) (attempt : Nat) (p : Plant) : Plant :=
  (p.onGen fun g => { g with
    attempts := attempt
    cycleLimit := if attempt = 1 then e.tables.genset.attempts else g.cycleLimit
    loaded := if attempt = 1 then false else g.loaded }).enterRun e .cranking

/-- A failure (08 R170). -/
def Plant.genFailure (e : Env) (cause : GenCause) (p : Plant) : Plant :=
  let again := p.gen.failedSinceRun
  let p := p.onGen fun g => { g with
    lastCause := cause
    startFailed := g.startFailed || cause == .start
    engineFailure := g.engineFailure || cause == .run || cause == .stop
    failedSinceRun := true }
  (p.offerEngine e .stop).enterRun e (if again then .lockedOut else .failed)

/-- ENGINE STOP is offered and the unit enters STOPPING. -/
def Plant.stopEngine (e : Env) (p : Plant) : Plant := (p.offerEngine e .stop).enterRun e .stopping

/-- Whether the minimum run is met (08 R168). -/
def Plant.minimumMet (e : Env) (p : Plant) : Bool :=
  decide (sec e.tables.genset.minimumRun ≤ p.gen.runMs e.now)

/-- The run state machine acts on the start-reason set as it stands (08 R165, R167, R168, R170). -/
def Plant.actOnReasons (e : Env) (p : Plant) : Plant :=
  let empty := p.gen.reasons.isEmpty
  match p.gen.run with
  | .off =>
    if !empty && p.charge.state != .startUp && !p.gen.resetOutstanding then p.enterCranking e 1 else p
  | .cranking | .warmup => if empty then p.stopEngine e else p
  | .rest => if empty then p.enterRun e .off else p
  | .onLoad =>
    if empty && (p.minimumMet e || p.charge.source == .mains) then p.enterRun e .cooldown else p
  | .cooldown => if empty then p else p.enterRun e .onLoad
  | .failed => if !empty && p.gen.retryDue then p.enterCranking e 1 else p
  | .stopping | .lockedOut | .disabled => p

/-! ### Start reasons -/

/-- The three automatic reasons are removed, and the low-voltage timer stops (08 R162; log entry 15). -/
def GenUnit.removeAutomatic (g : GenUnit) : GenUnit :=
  { g with
    reasons := { g.reasons with lowVoltage := false, lowSoc := false, dischargeTime := false }
    lowVoltage := .stopped }

/-- Whether reasons may be added: outside START_UP and not DISABLED (08 R161). -/
def Plant.reasonsOpen (p : Plant) : Bool := p.charge.state != .startUp && p.gen.run != .disabled

/-- Whether the bus voltage calls for a start (08 R161). -/
def Plant.voltageCalls (e : Env) (p : Plant) : Bool :=
  busIs p.battery.busVoltage (fun v => decide (v ≤ e.tables.genset.startVoltage)) &&
    p.charge.source == .none

/-- Whether the weakest SOC calls for a start (08 R161). -/
def Plant.socCalls (e : Env) (p : Plant) : Bool :=
  let t := e.tables.genset
  t.startSoc != 0 && p.charge.source == .none && decide (p.battery.weakestSoc ≤ t.startSoc)

/-- A reason examination (08 R161, R162). -/
def Plant.reasonExam (e : Env) (p : Plant) : Plant :=
  if p.reasonsOpen then
    let g := p.gen
    let timer :=
      if p.voltageCalls e then
        if g.reasons.lowVoltage then g.lowVoltage else g.lowVoltage.startIfStopped e.now (sec 30)
      else .stopped
    let g := { g with
      lowVoltage := timer
      reasons := { g.reasons with lowSoc := g.reasons.lowSoc || p.socCalls e } }
    let g := if e.tables.genset.stopSoc ≤ p.battery.weakestSoc then g.removeAutomatic else g
    ({ p with gen := g } : Plant).post [.actOnReasons]
  else p

/-- The low-voltage timer expires (08 R161). -/
def Plant.lowVoltageExpired (p : Plant) : Plant :=
  if p.reasonsOpen then
    (p.onGen fun g => { g with reasons := { g.reasons with lowVoltage := true } }).post [.actOnReasons]
  else p

/-- The discharge-time timer expires (08 R161). -/
def Plant.dischargeTimeExpired (p : Plant) : Plant :=
  if p.reasonsOpen then
    (p.onGen fun g => { g with reasons := { g.reasons with dischargeTime := true } }).post
      [.actOnReasons]
  else p

/-- The exercise count runs (08 R163). -/
def Plant.exerciseCounts (e : Env) (p : Plant) : Bool :=
  e.tables.genset.fitted && e.tables.genset.exerciseInterval != 0 && !p.gen.exerciseDue

/-- The exercise count reaches the interval (08 R163). -/
def Plant.exerciseExpired (p : Plant) : Plant :=
  (p.onGen fun g => { g with exerciseDue := true }).post [.exerciseCheck]

/-- Whether the run time runs and has reached the exercise duration (08 R163; log entry 19). -/
def Plant.exerciseDone (e : Env) (p : Plant) : Bool :=
  p.gen.runStart.isSome && decide (sec e.tables.genset.exerciseDuration ≤ p.gen.runMs e.now)

/-- The run counts as an exercise (08 R163). -/
def Plant.exerciseReached (p : Plant) : Plant :=
  (p.onGen fun g => { g with
    reasons := { g.reasons with exercise := false }
    exerciseDue := false, exerciseCount := 0 }).post [.actOnReasons]

/-- A due exercise is added to the set at the first moment when its conditions hold (08 R163; log entry 14).
One that is removed at once is no added reason to COOLDOWN (log entry 43). -/
def Plant.exerciseCheck (e : Env) (p : Plant) : Plant :=
  if p.gen.exerciseDue && !p.gen.fuelCritical && p.charge.state != .startUp &&
      p.gen.run != .lockedOut && p.gen.run != .disabled then
    let p := p.onGen fun g => { g with
      reasons := { g.reasons with exercise := true }, exerciseDue := false, exerciseCount := 0 }
    p.post [if p.exerciseDone e then .exerciseReached else .actOnReasons]
  else p

/-! ### Crank, rest, warm-up, cooldown, stop, retry -/

/-- The end of a crank attempt without a running indication (08 R165, R166). -/
def Plant.crankEnds (e : Env) (p : Plant) : Plant :=
  if p.gen.run == .cranking then
    let p := if p.gen.mainsMark then
        p.onGen fun g => { g.removeAutomatic with mainsMark := false }
      else p
    if p.gen.reasons.isEmpty then p.stopEngine e
    else if p.gen.attempts < p.gen.cycleLimit then (p.offerEngine e .stop).enterRun e .rest
    else p.genFailure e .start
  else p

/-- The rest expires (08 R167). -/
def Plant.restExpired (e : Env) (p : Plant) : Plant :=
  if p.gen.run == .rest then p.enterCranking e (p.gen.attempts + 1) else p

/-- Whether the last report showed output available. -/
def GenUnit.available (g : GenUnit) : Bool :=
  match g.report with
  | some (x, _) => x.available
  | none => false

/-- The warm-up expires (08 R167). -/
def Plant.warmupExpired (e : Env) (p : Plant) : Plant :=
  if p.gen.run == .warmup then
    if p.gen.contactOnly || p.gen.available then p.enterRun e .onLoad
    else p.onGen fun g => { g with warmupSecond := .running e.now (sec e.tables.genset.warmup) }
  else p

/-- The second warm-up period has run (08 R167; log entry 18). -/
def Plant.warmupSecondExpired (e : Env) (p : Plant) : Plant :=
  if p.gen.run == .warmup then
    if p.gen.contactOnly then p.enterRun e .onLoad else p.genFailure e .run
  else p

/-- The cooldown expires (08 R168). -/
def Plant.cooldownExpired (e : Env) (p : Plant) : Plant :=
  if p.gen.run == .cooldown then p.stopEngine e else p

/-- The stop confirm expires (08 R169). -/
def Plant.stopConfirmExpired (e : Env) (p : Plant) : Plant :=
  if p.gen.run == .stopping then
    if p.gen.contactOnly && !e.hasInput .genFeedback then p.enterRun e .off else p.genFailure e .stop
  else p

/-- The retry timer expires (08 R170). -/
def Plant.retryExpired (p : Plant) : Plant :=
  if p.gen.run == .failed then
    (p.onGen fun g => { g with retryDue := true }).post [.actOnReasons]
  else p

/-! ### Contact-only indication -/

/-- Whether the engine is running by the contacts and the rectifiers (08 R173). -/
def Plant.indicated (e : Env) (p : Plant) : Bool :=
  if e.hasInput .genFeedback then e.inputLevel .genFeedback
  else if e.hasInput .mainsSense then p.anyAcOk e && !e.inputLevel .mainsSense
  else p.anyAcOk e

/-- The indication worked out in contact-only operation (08 R165, R167 to R169, R173; log entry 17). -/
def Plant.indication (e : Env) (p : Plant) : Plant :=
  if p.gen.contactOnly && e.tables.genset.fitted then
    let running := p.indicated e
    match p.gen.run with
    | .cranking => if running then p.enterRun e .warmup else p
    | .warmup | .onLoad | .cooldown => if running then p else p.genFailure e .run
    | .stopping => if running then p else p.enterRun e .off
    | _ => p
  else p

/-! ### Reports, notices, and the engine's reports on orders -/

/-- A report with the mains mark set that is not RUNNING: the return is taken as mains (08 R166; log entry 16). -/
def Plant.markDecided (e : Env) (p : Plant) : Plant :=
  let p := p.onGen fun g => { g.removeAutomatic with mainsMark := false }
  if p.gen.reasons.isEmpty then p.stopEngine e else p

/-- The engine status applied to the run state (08 R159 step 3, R165 to R169). A report taken in DISCOVERING or
LOST is applied like any other, as R159 says, and FAULT too: DEDUCED, where R173 has no transition on FAULT in
contact-only operation (log entry 61). -/
def Plant.applyEngine (e : Env) (r : GensetReport) (p : Plant) : Plant :=
  match p.gen.run, r.engine with
  | .cranking, .running => p.enterRun e .warmup
  | .cranking, s =>
    if p.gen.mainsMark then p.markDecided e
    else if s == .fault then p.genFailure e .start
    else p
  | .rest, .fault => p.genFailure e .start
  | .warmup, .stopped | .warmup, .fault => p.genFailure e .run
  | .warmup, _ => if p.gen.warmupSecond.isRunning && r.available then p.enterRun e .onLoad else p
  | .onLoad, .stopped | .onLoad, .fault => p.genFailure e .run
  | .cooldown, .stopped | .cooldown, .fault => p.genFailure e .run
  | .stopping, .stopped | .stopping, .fault => p.enterRun e .off
  | _, _ => p

/-- Whether a report in OFF shows a stray run (08 R172). -/
def Plant.stray (e : Env) (r : GensetReport) (p : Plant) : Bool :=
  p.gen.run == .off && p.charge.state != .startUp && e.mode == .auto && p.gen.reasons.isEmpty &&
    (r.engine == .cranking || r.engine == .running)

/-- Whether an order dropped unanswered is re-offered in a run state (08 R172). -/
def reoffers (a : EngineAction) (s : RunState) : Bool :=
  match a, s with
  | .start, .cranking => true
  | .stop, .rest | .stop, .stopping | .stop, .failed | .stop, .lockedOut | .stop, .disabled => true
  | _, _ => false

/-- Step 4 of a genset report: re-offer and stray run (08 R159, R172). That an order dropped unanswered whose
next report comes while the record is LOST is forgotten there, with nothing offered, is a DESIGN CHOICE (log
entry 60). -/
def Plant.reofferEngine (e : Env) (r : GensetReport) (p : Plant) : Plant :=
  let p := match p.gen.dropped with
    | some a =>
      if reoffers a p.gen.run then (p.onGen fun g => { g with dropped := none }).offerEngine e a else p
    | none => p
  if p.stray e r then p.offerEngine e .stop else p

/-- A genset report is taken: it is stored, then the fuel conditions, the engine status and the re-offer
are taken in turn, each with all that follows from it (08 R159). -/
def Plant.gensetReport (r : GensetReport) (t : Nat) (p : Plant) : Plant :=
  (p.onGen fun g => { g with report := some (r, t) }).post [.fuel, .engineStatus r, .reofferEngine r]

/-- The status a notice gives the genset record (08 R158). -/
def UnitNotice.status : UnitNotice → UnitStatus
  | .discovering => .discovering | .absent => .absent | .reporting => .reporting | .lost => .lost

/-- A notice of the genset's station is taken (08 R158, R171; log entry 23). -/
def Plant.gensetNotice (e : Env) (n : UnitNotice) (p : Plant) : Plant :=
  let p := p.onGen fun g => { g with
    status := n.status
    resetOutstanding := g.resetOutstanding && n == .reporting }
  let p := if n == .discovering then
      (p.onGen fun g => { g with report := none, decline := none }).workFuel e
    else p
  p.post [.genConds, .actOnReasons]

/-- The RESET is no longer outstanding (08 R171). -/
def Plant.resetEnded (p : Plant) : Plant :=
  (p.onGen fun g => { g with resetOutstanding := false }).post [.actOnReasons]

/-- An ENGINE order was confirmed (08 R172). -/
def Plant.genConfirmed (a : EngineAction) (p : Plant) : Plant :=
  if a == .reset then p.resetEnded else p

/-- An ENGINE order was declined (08 R165, R172). -/
def Plant.genDeclined (e : Env) (a : EngineAction) (reason : Nat) (p : Plant) : Plant :=
  let p := p.onGen fun g => { g with decline := some reason }
  match a with
  | .start => p.crankEnds e
  | .stop => p
  | .reset => p.resetEnded

/-- An ENGINE order was dropped unanswered; one dropped because the station went LOST is not kept for
a further offer (08 R172). -/
def Plant.genDropped (e : Env) (a : EngineAction) (p : Plant) : Plant :=
  match a with
  | .reset => p.resetEnded
  | _ =>
    if p.linkOf e.gensetStation == .reporting && reoffers a p.gen.run then
      p.onGen fun g => { g with dropped := some a }
    else p

/-! ### Changes of source and plant state -/

/-- A change of source (08 R161, R162, R166, R168). -/
def Plant.genSource (e : Env) (old new : Source) (p : Plant) : Plant :=
  let p := if old == .mains then p.onGen fun g => { g with mainsMark := false } else p
  let p :=
    if new == .mains then
      if p.gen.run == .cranking && !e.hasInput .mainsSense then
        if p.gen.contactOnly && !e.hasInput .genFeedback then p.post [.indication]
        else p.onGen fun g => { g with mainsMark := true }
      else p.onGen GenUnit.removeAutomatic
    else p
  p.post [.reasonExam, .actOnReasons]

/-- A change of plant state (08 R161 to R163, R165). The discharge-time timer does not start in DISABLED (log
entry 42). -/
def Plant.genPlant (e : Env) (old new : PlantState) (p : Plant) : Plant :=
  let p := if new == .float then p.onGen GenUnit.removeAutomatic else p
  let hoursMax := e.tables.genset.maxDischarge
  let p :=
    if new == .discharge && p.charge.state == .discharge && hoursMax != 0 && p.reasonsOpen then
      p.onGen fun g => { g with dischargeTime := .running e.now (hours hoursMax) }
    else if old == .discharge then p.onGen fun g => { g with dischargeTime := .stopped }
    else p
  p.post [.reasonExam, .exerciseCheck, .actOnReasons]

/-! ### The fitted field -/

/-- A write of fitted no: the unit goes to DISABLED (08 R171). -/
def Plant.genUnfit (e : Env) (p : Plant) : Plant :=
  let p := p.onGen fun g => { g with
    reasons := ⟨false, false, false, false, false⟩
    lowVoltage := .stopped, dischargeTime := .stopped, exerciseCount := 0, exerciseDue := false }
  (p.offerEngine e .stop).enterRun e .disabled

/-- A write of fitted yes: the unit moves from DISABLED to OFF (08 R171). -/
def Plant.genFit (e : Env) (p : Plant) : Plant :=
  (p.onGen fun g => { g with attempts := 0, exerciseCount := 0 }).enterRun e .off

end Sys2Proof.Machine
end

