-- ==== Sys2Proof/Machine/Inputs.lean ====
section
/-! DEFINITION. Contact input unit (09): filter, restart, and what the inputs hand on. -/

namespace Sys2Proof.Machine

/-- The level that a contact's reading gives under an entry's polarity (09 R179). -/
def InputEntry.level (x : InputEntry) (closed : Bool) : Bool := closed != x.activeOpen

/-- The alarm point of an input, 32 + i (09 R181). -/
def pointOf (i : InputIx) : PointIx := ⟨32 + i.val, by omega⟩

/-- An input's filter restarted (09 R180). -/
def Input.restart (now : Nat) (x : InputEntry) (i : Input) : Input :=
  { i with streakCount := 0, samples := 0, accepted := false, nextSample := now + x.interval }

/-- The streak and the settling count after a sample (09 R179 steps 1 and 2). -/
def Input.streak (level : Bool) (i : Input) : Input :=
  { i with
    streakCount := if i.streakLevel = level then min (i.streakCount + 1) 3 else 1
    streakLevel := level
    samples := min (i.samples + 1) 3 }

/-- Whether a sample's streak is accepted (09 R179 step 3). -/
def Input.accepts (i : Input) : Bool := i.streakCount == 3 && i.streakLevel != i.accepted

/-- An input after a sample (09 R179). -/
def Input.sample (now : Nat) (stamp : Stamp) (x : InputEntry) (level : Bool) (i : Input) : Input :=
  let s := { i.streak level with nextSample := now + x.interval }
  if s.accepts then { s with accepted := level, lastChange := some stamp } else s

/-- What an accepted change hands the reader that the input's function names, but for the charge controller
and the run unit, which every accepted change makes work out (09 R181). -/
def acceptedReader (x : InputEntry) (i : InputIx) (level : Bool) : List Signal :=
  match x.function with
  | .unused | .mainsSense | .genFeedback => []
  | .ldFeedback => [.ldCompare]
  | .alarm =>
    if x.edge then (if level then [.momentary (pointOf i)] else []) else [.cond (pointOf i) level]
  | .enclosure => if x.edge then [.momentary (pointOf i)] else [.cond (pointOf i) level]

/-- What an accepted change of an input hands on: to the reader its function names, and, whatever the
function, the working-out of the source and of the indication (09 R181, 05 R91, 08 R173). That the reader
comes first and the source before the indication is a DESIGN CHOICE: in contact-only WARMUP it decides between
OFF and a failure (log entry 62). -/
def acceptedSignals (x : InputEntry) (i : InputIx) (level : Bool) : List Signal :=
  acceptedReader x i level ++ [.workSource, .indication]

/-- What a function's reader is handed when a write makes the level INACTIVE (09 R180, R181; log entry 26);
`fell` says that the accepted level was ACTIVE, so that it changes (05 R91, 08 R173). That a write that assigns
or removes MAINS_SENSE has the run unit work out its indication too is a DESIGN CHOICE (08 R173; log entry
49). -/
def restartSignals (f : InputFunction) (i : InputIx) (fell : Bool) : List Signal :=
  (match f with
    | .unused | .mainsSense | .genFeedback => []
    | .ldFeedback => [.ldCompare]
    | .alarm | .enclosure => [.cond (pointOf i) false]) ++
  (if fell || f == .mainsSense then [.workSource] else []) ++
  (if fell || f == .mainsSense || f == .genFeedback then [.indication] else [])

/-- What a change of detection alone hands on (09 R178). -/
def detectionSignals (x : InputEntry) (i : InputIx) (level : Bool) : List Signal :=
  match x.function with
  | .alarm | .enclosure => [.cond (pointOf i) (!x.edge && level)]
  | _ => []

/-- An input after a write of its entry, and what is handed on: `old` is the entry before it
(09 R178, R180, R181). -/
def Input.rewrite (now : Nat) (stamp : Stamp) (old new : InputEntry) (ix : InputIx) (i : Input) :
    Input × List Signal :=
  if old.function != new.function || old.activeOpen != new.activeOpen then
    let r := i.restart now new
    let r := if i.accepted then { r with lastChange := some stamp } else r
    let signals :=
      if old.function != new.function then 
        restartSignals old.function ix i.accepted ++ restartSignals new.function ix false
      else if i.accepted then restartSignals old.function ix true
      else []
    (r, signals)
  else
    let r := if old.interval != new.interval then { i with nextSample := now + new.interval } else i
    (r, if old.edge != new.edge then detectionSignals new ix i.accepted else [])

end Sys2Proof.Machine
end

