-- ==== Sys2Proof/Machine/Cascade.lean ====
section
/-! DEFINITION. The cascade inside one step: who acts on each hand-on, what each timer's expiry does,
and how the agenda is worked off (log entry 9). -/

namespace Sys2Proof.Machine

/-- A timer has expired: it stops, and its block acts. -/
def Plant.fire (e : Env) (id : TimerId) (p : Plant) : Plant :=
  let p := p.setTimer .stopped id
  match id with
  | .evaluation => p.evaluationExpired e
  | .startHold => p.startHoldExpired e
  | .dischargeDebounce => p.dischargeDebounceExpired e
  | .recoveryDebounce => p.recoveryDebounceExpired e
  | .boost => p.boostExpired e
  | .taper => p.taperExpired
  | .equalizeDuration => p.equalizeDurationExpired e
  | .tempHold => p.tempHoldExpired
  | .testDuration => p.testEnd e .passed
  | .disconnect => p.disconnectExpired e
  | .reconnect => p.reconnectExpired e
  | .mismatch => p.mismatchExpired
  | .sizing => p.sizingExpired e
  | .shed => p.shedExpired
  | .stagger => p.staggerExpired e
  | .refresh => p.refreshExpired e
  | .lowVoltage => p.lowVoltageExpired
  | .dischargeTime => p.dischargeTimeExpired
  | .crank => p.crankEnds e
  | .rest => p.restExpired e
  | .warmup => p.warmupExpired e
  | .warmupSecond => p.warmupSecondExpired e
  | .cooldown => p.cooldownExpired e
  | .stopConfirm => p.stopConfirmExpired e
  | .retry => p.retryExpired
  | .follow u => p.followExpired e u
  | .recovery u => p.recoveryExpired u
  | .delay i => p.delayExpired e i

/-- The composing unit is told that its order was confirmed (02 R33). -/
def Plant.tellConfirmed (e : Env) (o : Order) (p : Plant) : Plant :=
  match o.composer, o.body with
  | .rect u, b => p.rectConfirmed e u b
  | .gen, .engine a => p.genConfirmed a
  | .gen, _ => p

/-- The composing unit is told that its order was declined (02 R33). -/
def Plant.tellDeclined (e : Env) (o : Order) (reason : Nat) (p : Plant) : Plant :=
  match o.composer, o.body with
  | .rect u, b => p.rectDeclined e u b reason
  | .gen, .engine a => p.genDeclined e a reason
  | .gen, _ => p

/-- The composing unit is told that its order was dropped unanswered (02 R25, R31, R33). -/
def Plant.tellDropped (e : Env) (o : Order) (p : Plant) : Plant :=
  match o.composer, o.body with
  | .rect u, b => p.rectDropped e u b
  | .gen, .engine a => p.genDropped e a
  | .gen, _ => p

/-- The receiver of a hand-on acts on it. -/
def Plant.handle (e : Env) : Signal → Plant → Plant
  | .linkStatus st n, p => p.changeLink e st n
  | .fieldBus, p => p.fieldBus e
  | .stringReport i r t, p => p.stringReport e i r t
  | .stringNotice i n, p => p.stringNotice e i n
  | .recompute, p => p.recompute e
  | .busVoltage, p => p.workBusVoltage
  | .resync, p => p.resync e
  | .workSource, p => p.workSource e
  | .examine, p => p.examine e
  | .workSetpoint, p => p.workSetpoint e
  | .evaluationTail, p => p.evaluationTail e
  | .taperEnd, p => p.taperEnd e
  | .testCharge d, p => p.testCharge d
  | .testVoltage, p => p.testVoltage e
  | .testSource, p => p.testSource e
  | .testRun, p => p.testRun e
  | .testAbort o, p => p.testEnd e o
  | .scheduledTest, p => p.scheduledTest e
  | .ldExam, p => p.ldExam e
  | .ldCompare, p => p.ldCompare e
  | .rectReport u r, p => p.rectReport e u r
  | .rectNotice u n, p => p.rectNotice e u n
  | .rectSource a b, p => p.rectSource e a b
  | .rectPlant a b, p => p.rectPlant e a b
  | .rectRun, p => p.rectRun
  | .rectMode, p => p.rectMode e
  | .refill w, p => p.refill e w
  | .floor, p => p.applyFloor e
  | .sizingStep, p => p.sizingStep e
  | .reconcile, p => p.reconcile e
  | .rotationExam, p => p.rotationExam e
  | .compose l, p => p.compose e l
  | .snooped u a, p => p.snooped e u a
  | .gensetReport r t, p => p.gensetReport r t
  | .engineStatus r, p => p.applyEngine e r
  | .reofferEngine r, p => p.reofferEngine e r
  | .gensetNotice n, p => p.gensetNotice e n
  | .genSource a b, p => p.genSource e a b
  | .genPlant a b, p => p.genPlant e a b
  | .reasonExam, p => p.reasonExam e
  | .exerciseCheck, p => p.exerciseCheck e
  | .exerciseReached, p => p.exerciseReached
  | .actOnReasons, p => p.actOnReasons e
  | .indication, p => p.indication e
  | .workAllowance, p => p.workAllowance e
  | .fuel, p => p.workFuel e
  | .resetEnded, p => p.resetEnded
  | .orderConfirmed o, p => p.tellConfirmed e o
  | .orderDeclined o r, p => p.tellDeclined e o r
  | .orderDropped o, p => p.tellDropped e o
  | .stringConds, p => p.stringConds e
  | .chargeConds, p => p.chargeConds e
  | .testConds, p => p.testConds e
  | .rectConds, p => p.rectConds e
  | .genConds, p => p.genConds e
  | .busConds, p => p.busConds e
  | .cond i b, p => p.setCond e i b
  | .momentary i, p => p.momentary e i
  | .expired id, p => if (p.timer id).isOver e.now then p.fire e id else p

/-- Work off the agenda: the first hand-on is taken, and what it hands on comes before the rest. After
`fuel` hand-ons those left stay on the agenda (log entry 9). -/
def Plant.settle (e : Env) : Nat → List Signal → Plant → Plant
  | 0, rest, p => { p with agenda := p.agenda ++ rest }
  | n + 1, rest, p =>
    match p.agenda ++ rest with
    | [] => p
    | s :: more => Plant.settle e n more ({ p with agenda := [] }.handle e s)

/-- The number of hand-ons that one settling takes at most (log entry 9). -/
def agendaBound : Nat := 4096

/-! ### The whole state -/

/-- The state with its plant changed. -/
def State.onPlant (f : Env → Plant → Plant) (s : State) : State := { s with plant := f s.env s.plant }

/-- The agenda worked off. -/
def State.settle (s : State) : State := s.onPlant fun e p => p.settle e agendaBound []

/-- Hand on. -/
def State.post (l : List Signal) (s : State) : State := { s with plant := s.plant.post l }

/-- The end of a step: the agenda is worked off and the output drivers work out the relays (09 R183). -/
def State.finish (s : State) : State := s.settle.onPlant Plant.driveRelays

/-! ### The plant clock -/

/-- Whether a rectifier's run minutes count (07 R154). -/
def RectRec.runs (x : RectRec) : Bool :=
  x.status == .active &&
    match x.report with
    | some r => r.acOk
    | none => false

/-- Elapsed time joins the counts that run (05 R93, 06 R115, 07 R147, R154, 08 R163). -/
def Plant.elapse (e : Env) (dt : Nat) (p : Plant) : Plant :=
  { p with
    charge := { p.charge with
      equalizeCount := p.charge.equalizeCount + if p.equalizeCounts e then dt else 0 }
    test := { p.test with count := p.test.count + if p.testCounts e then dt else 0 }
    rect := { p.rect with
      rotationCount := p.rect.rotationCount + if p.rotationCounts e then dt else 0
      records := p.rect.records.map fun x => { x with carry := x.carry + if x.runs then dt else 0 } }
    gen := { p.gen with
      exerciseCount := p.gen.exerciseCount + if p.exerciseCounts e then dt else 0 } }

/-- Time passes on the plant clock. -/
def State.advance (dt : Nat) (s : State) : State :=
  { s with
    env := { s.env with clock := { s.env.clock with now := s.env.clock.now + dt } }
    plant := s.plant.elapse s.env dt }

/-- The plant clock is brought forward to a time; a time already past leaves it (log entry 1). -/
def State.bringTo (t : Nat) (s : State) : State := s.advance (t - s.env.clock.now)

/-- The expiry of a named timer: the clock is brought forward to it, and its block acts. A timer that
does not run does not expire (log entry 1). -/
def State.expire (id : TimerId) (s : State) : State :=
  match s.plant.timer id with
  | .stopped => s
  | .running start length => ((s.bringTo (start + length)).onPlant fun e p => p.fire e id).finish

/-- The end of a count that runs toward a limit: the clock is brought forward by what is left, and its
block acts. A count that does not run does not end (log entry 1). -/
def State.countEnds (counts : Bool) (count limit : Nat) (act : Env → Plant → Plant) (s : State) : State :=
  if counts then ((s.advance (limit - count)).onPlant act).finish else s

end Sys2Proof.Machine
end

