-- ==== Sys2Proof/Machine/Requests.lean ====
section
/-! DEFINITION. The supervisory port (01, 1.6) and how the request unit takes an accepted request (03, 3.1). -/

namespace Sys2Proof.Machine

/-- The silence, in whole ms, that is more than 3 character times at a rate (01 R2; log entry 11). -/
def silenceMs (rate : Nat) : Nat := if rate ≤ 96 then 4 else if rate ≤ 192 then 2 else 1

/-- The state with its port changed. -/
def State.onPort (f : Port → Port) (s : State) : State := { s with port := f s.port }

/-- The state with its request unit changed. -/
def State.onRequest (f : RequestUnit → RequestUnit) (s : State) : State :=
  { s with request := f s.request }

/-! ### The silence timer and the mode -/

/-- The supervisor-silence timer started with a timeout; 0 stops it (03 R59, R60). -/
def silenceTimer (now timeout : Nat) : Timer :=
  if timeout = 0 then .stopped else .running now (sec timeout)

/-- The silence timer starts again with the timeout in force (03 R60). -/
def State.restartSilence (s : State) : State :=
  s.onRequest fun r => { r with
    silence := silenceTimer s.env.now s.env.tables.supervision.silenceTimeout }

/-- An accepted request restarts the silence timer and ends SUPERVISOR_SILENT (03 R45 step 1, R60). -/
def State.heard (s : State) : State :=
  ((s.restartSilence.onRequest fun r => { r with silent := false }).post [.cond 25 false]).settle

/-- The line side of a change to MANUAL: a SET_OUTPUT or SET_STATE on the line is not retried (02 R34). -/
def Line.manual (l : Line) : Line :=
  { l with txn := l.txn.map fun x =>
    match x.carried with
    | .order o => { x with noRetry := x.noRetry || !o.body.isEngine }
    | _ => x }

/-- The mode becomes MANUAL and is handed on (03 R58), in an order that is a DESIGN CHOICE (log entry 65). -/
def State.toManual (s : State) : State :=
  let s := { s with env := { s.env with mode := .manual }, line := s.line.manual }
  s.onPlant fun e p =>
    ((((p.setQueue (p.queue.filter fun o => o.body.isEngine)).testEnd e .abortedCommand).chargeMode
      e).post [.rectMode, .cond 28 true])

/-- The mode becomes AUTO and is handed on (03 R58). That the setpoint worked out at the change (05 R108) is
handed before the records are re-imposed (07 R153) is a DESIGN CHOICE: SET_OUTPUT is then composed for a
record that is still ACTIVE although the re-imposing makes it STANDBY (log entry 52). -/
def State.toAuto (s : State) : State :=
  let s := { s with env := { s.env with mode := .auto } }
  s.onPlant fun e p => (p.chargeMode e).post [.rectMode, .cond 28 false]

/-! ### Carrying a request out -/

/-- What carrying a request out gives: the state, the status and the content of the answer. -/
structure Done where
  state : State
  status : Status
  content : List Byte

/-- A request refused, or answered without a change (03 R45). -/
def State.refuse (status : Status) (content : List Byte) (s : State) : Done := ⟨s, status, content⟩

/-- A request's frame. -/
def requestFrame (code : Byte) (q : Req) : Frame := ⟨0, q.source, kindRequest, q.tag, code :: q.params⟩

/-- The port receives a frame's characters, which end at a time (01 R2). -/
def Port.hear (bytes : List Byte) (t : Nat) (x : Port) : Port :=
  { x with rxBuffer := stored bytes, quietFrom := max x.quietFrom t }

/-- Characters that the port hears without taking a frame start restart its wait for silence (01 R18). -/
def Port.wait (t : Nat) (x : Port) : Port := { x with quietFrom := max x.quietFrom t }

/-- An intruding frame is discarded with the link-fault flag set (01 R18). -/
def Port.intrude (bytes : List Byte) (t : Nat) (x : Port) : Port :=
  { x.hear bytes t with linkFault := true }

/-- The request unit executes an accepted request, and the port holds its answer (01 R14, R17, 03 R45). -/
def State.execute (code : Byte) (q : Req) (body : State → Done) (s : State) : State :=
  let d := body s.heard
  (d.state.onPort fun x => { x with
    state := .answerPending, answer := some ⟨q.source, q.tag, code, d.status, d.content⟩ }).finish

/-- The frame of a request ends at the supervisory port (01 R14, R16, R18): it is executed when the port
takes it. `frame` is what the port hears. -/
def State.takeRequest (frame : Frame) (code : Byte) (q : Req) (body : State → Done) (s : State) : State :=
  let s := s.bringTo q.time
  match s.port.state with
  | .ready | .receiving =>
    let s := s.onPort fun x => x.hear frame.encode q.time
    if isStation q.source then s.execute code q body else s
  | .answerPending => s.onPort fun x => x.intrude frame.encode q.time
  | .silenceWait => s.onPort fun x => x.wait q.time
  | .sending => s

/-- A request whose parameters follow its code. -/
def State.requestOf (code : Byte) (q : Req) (body : List Byte → State → Done) (s : State) : State :=
  s.takeRequest (requestFrame code q) code q (body q.params)

/-- A READ_RECORD of a kind with a selector of `size` bytes: its record, none when the selector is
outside its range (03 R47). Parameters that name another kind are another row's. -/
def State.recordOf (kind : Byte) (size : Nat) (record : Nat → State → Option (List Byte)) (q : Req)
    (s : State) : State :=
  match q.params with
  | k :: sel =>
    if k = kind then
      s.requestOf 0x03 q (fun _ s =>
        if sel.length = size then
          match record (beVal sel) s with
          | some content => ⟨s, .ok, content⟩
          | none => s.refuse .range []
        else s.refuse .badEntry []) 
    else s
  | [] => s

/-- A COMMAND with a subcode, whose parameters have a length that `fits`; the answer's content begins
with the subcode (03 R48). Parameters that name another subcode are another row's. -/
def State.commandOf (sub : Byte) (fits : Nat → Bool) (body : List Byte → State → Done) (q : Req)
    (s : State) : State :=
  match q.params with
  | c :: args =>
    if c = sub then
      s.requestOf 0x07 q fun _ s =>
        if fits args.length then
          let d := body args s
          { d with content := sub :: d.content }
        else s.refuse .badEntry [sub]
    else s
  | [] => s

/-- A command without parameters. -/
def State.plainCommand (sub : Byte) (body : State → Done) (q : Req) (s : State) : State :=
  s.commandOf sub (fun n => n == 0) (fun _ s => body s) q

/-- A command that its block answers OK or REFUSED_STATE: `act` is none when it is refused. -/
def State.plantCommand (sub : Byte) (act : Env → Plant → Option Plant) (q : Req) (s : State) : State :=
  s.plainCommand sub (fun s =>
    match act s.env s.plant with
    | some p => ⟨{ s with plant := p }, .ok, []⟩
    | none => s.refuse .refusedState []) q

/-! ### Requests of no row -/

/-- The COMMAND subcodes are 0x01 to 0x13 (03 R48). -/
def knownSub (b : Byte) : Bool := decide (1 ≤ b.toNat) && decide (b.toNat ≤ 19)

/-- The READ_RECORD kinds are 1 to 11 (03 R47). -/
def knownKind (b : Byte) : Bool := decide (1 ≤ b.toNat) && decide (b.toNat ≤ 11)

/-- The code echoed and the status of a request payload that no other row covers; none when another row
covers it (01 R16, 03 R47, R48; log entry 32). -/
def unknownStatus : List Byte → Option (Byte × Status)
  | [] => some (0, .badEntry)
  | 0x03 :: ps =>
    match ps with
    | [] => some (0x03, .badEntry)
    | k :: _ => if knownKind k then none else some (0x03, .badEntry)
  | 0x07 :: ps =>
    match ps with
    | [] => some (0x07, .badEntry)
    | c :: _ => if knownSub c then none else some (0x07, .unknown)
  | c :: _ => if 1 ≤ c.toNat ∧ c.toNat ≤ 9 then none else some (c, .unknown)

/-! ### The port's rows -/

/-- DISCARD_FRAME (01 R15, R18). -/
def portDiscard (f : RxFrame) (s : State) : State :=
  let s := s.bringTo f.ends
  match s.port.state with
  | .ready | .receiving =>
    if accepted f then s
    else s.onPort fun x => { x.hear f.bytes f.ends with
      state := .ready, linkFault := x.linkFault || discards f }
  | .answerPending => s.onPort fun x => x.intrude f.bytes f.ends
  | .silenceWait => s.onPort fun x => x.wait f.ends
  | .sending => s

/-- The frame that carries an answer (01 R17). -/
def Answer.frame (a : Answer) : Frame :=
  ⟨a.dest, 0, kindAnswer, a.tag, a.code :: BitVec.ofNat 8 a.status.toNat :: a.content⟩

/-- Whether an answer is the OK answer to RESTART (03 R62). -/
def Answer.isRestart (a : Answer) : Bool :=
  a.code == 0x07 && a.status == .ok && a.content.head? == some 0x13

/-- DISCARD_FRAME. -/
def execDiscardFrame (f : RxFrame) (s : State) : Host.Outcome State Fault Refusal :=
  .next (portDiscard f s)

/-- SILENCE_WAIT_END: the line has been silent, and the port goes to READY (01 R14). -/
def execSilenceWaitEnd (s : State) : Host.Outcome State Fault Refusal :=
  .next <|
    if s.port.state == .silenceWait then
      (s.bringTo (s.port.quietFrom + silenceMs s.port.rate)).onPort fun x => { x with state := .ready }
    else s

/-- CHARACTERS_IN_SILENCE_WAIT: characters end at a time; the wait starts again (01 R2, R18). -/
def execCharactersInSilenceWait (t : Nat) (s : State) : Host.Outcome State Fault Refusal :=
  .next <|
    if s.port.state == .silenceWait then (s.bringTo t).onPort fun x => x.wait t else s

/-- INTRUDING_FRAME: a frame that began in ANSWER_PENDING ends (01 R18). -/
def execIntrudingFrame (f : RxFrame) (s : State) : Host.Outcome State Fault Refusal :=
  .next <|
    if s.port.state == .answerPending then
      (s.bringTo f.ends).onPort fun x => x.intrude f.bytes f.ends
    else s

/-- ANSWER_START: the ANSWER begins, no earlier than the silence of 01 R2 allows (01 R14, R17). -/
def execAnswerStart (s : State) : Host.Outcome State Fault Refusal :=
  .next <|
    match s.port.state, s.port.answer with
    | .answerPending, some a =>
      (s.bringTo (s.port.quietFrom + silenceMs s.port.rate)).onPort fun x =>
        { x with state := .sending, sending := some a.frame.encode }
    | _, _ => s

/-- ANSWER_SENT: the last stop bit of the ANSWER ends at a time; a newly written rate takes effect, and
the reset of an answered RESTART falls due (01 R1, R14, R17, 03 R62). -/
def execAnswerSent (t : Nat) (s : State) : Host.Outcome State Fault Refusal :=
  .next <|
    if s.port.state == .sending then
      let due := match s.port.answer with
        | some a => a.isRestart
        | none => false
      ((s.bringTo t).onRequest fun r => { r with restartDue := r.restartDue || due }).onPort fun x =>
        { x.wait t with
          state := .silenceWait, sending := none, answer := none
          rate := s.env.tables.supervision.rate }
    else s

/-- UNKNOWN_REQUEST: a request of no known code, kind or subcode (01 R16, 03 R45, R47, R48). -/
def execUnknownRequest (q : Req) (s : State) : Host.Outcome State Fault Refusal :=
  .next <|
    match unknownStatus q.params with
    | none => s
    | some (code, status) =>
      s.takeRequest ⟨0, q.source, kindRequest, q.tag, q.params⟩ code q fun s => s.refuse status []

end Sys2Proof.Machine
end

