-- ==== Sys2Proof/Machine/Records.lean ====
section
/-! DEFINITION. The requests that read: STATUS, COLLECT and READ_RECORD (03 R46, R47 and the record tables). -/

namespace Sys2Proof.Machine

/-! ### STATUS -/

/-- A bus voltage in a record, 0 when invalid. -/
def busField (v : Option Nat) : List Byte :=
  match v with
  | some x => recU 4 x
  | none => recU 4 0

/-- A station in a record, 0 when absent. -/
def stationField (st : Option Station) : List Byte :=
  match st with
  | some x => recU 1 x.val
  | none => recU 1 0

/-- The STATUS flags (03 R46 field 18). -/
def State.statusFlags (s : State) : Nat :=
  bits [s.port.linkFault, s.plant.alarms.overflow, s.request.unsaved, s.request.lock,
    s.env.clock.siteSet, s.plant.battery.busVoltage.isSome,
    s.plant.reportingStrings.any fun i => s.plant.strings[i].estimated]

/-- The content of a STATUS answer (03 R46). -/
def State.statusContent (s : State) : List Byte :=
  let e := s.env
  let p := s.plant
  recU 1 p.charge.state.toNat ++ recU 1 e.mode.toNat ++ recU 1 p.charge.source.toNat ++
  busField p.battery.busVoltage ++ recU 4 p.charge.setpoint ++
  recS 2 p.battery.iBat ++ recU 2 p.battery.iChg.toNat ++ recU 1 p.battery.weakestSoc ++
  recU 1 (match p.battery.weakestIndex with
    | some i => i.val
    | none => 255) ++
  recS 2 p.battery.tComp ++ recU 1 p.gen.run.toNat ++ recU 1 p.ld.state.toNat ++
  recU 1 p.activeCount ++ recU 1 p.rect.duty.length ++
  recU 1 (p.alarmCount e .critical) ++ recU 1 (p.alarmCount e .major) ++
  recU 1 (p.alarmCount e .minor) ++ recU 1 (p.alarmCount e .warning) ++
  recU 1 (p.unackedCount e) ++ recU 1 p.alarms.notices.length ++ recU 1 s.statusFlags ++
  recU 1 s.store.state.toNat ++ recU 1 s.request.causes.toNat ++ recU 4 e.clock.site

/-- The empty reset-cause set. -/
def CauseSet.none : CauseSet := ⟨false, false, false, false⟩

/-- STATUS carried out: the link-fault flag and the reset-cause set are reported, then cleared (01 R15, 03 R46, R61). -/
def State.status (params : List Byte) (s : State) : Done :=
  if params.isEmpty then
    ⟨{ s with
        port := { s.port with linkFault := false }
        request := { s.request with causes := .none } }, .ok, s.statusContent⟩
  else s.refuse .badEntry []

/-- STATUS. -/
def execStatus (q : Req) (s : State) : Host.Outcome State Fault Refusal :=
  .next (s.requestOf 0x01 q State.status)

/-! ### COLLECT -/

/-- A notice as COLLECT returns it (10 R192). -/
def Notice.bytes (n : Notice) : List Byte :=
  recU 1 n.point.val ++ recU 1 n.kind.toNat ++ recU 1 n.severity.toNat ++ recU 4 n.stamp.site ++
  recU 1 (bits [n.stamp.set, n.bus.isSome]) ++ busField n.bus ++ recU 1 n.plant.toNat

/-- COLLECT carried out (10 R191, R192). -/
def State.collect (params : List Byte) (s : State) : Done :=
  if params.isEmpty then
    let a := s.plant.alarms
    let r := collectNotices 4 a.notices
    ⟨{ s with plant := { s.plant with alarms := { a with notices := r.2, overflow := false } } }, .ok,
      recU 1 r.1.length ++ recU 1 r.2.length ++ recU 1 (bits [a.overflow]) ++
        r.1.flatMap Notice.bytes⟩
  else s.refuse .badEntry []

/-- COLLECT. -/
def execCollect (q : Req) (s : State) : Host.Outcome State Fault Refusal :=
  .next (s.requestOf 0x02 q State.collect)

/-! ### READ_RECORD -/

/-- Report fields that read 0 when the last report is absent. -/
def absentRect : RectReport := ⟨0, 0, 0, 0, false, false, false, 0⟩

/-- A unit's duty position, 255 when it is not in the duty list (07 R155). -/
def RectUnit.position (r : RectUnit) (u : RectIx) : Nat :=
  if r.duty.contains u then r.duty.idxOf u else 255

/-- The RECTIFIER record (07 R155). -/
def State.rectRecord (u : RectIx) (s : State) : List Byte :=
  let x := s.plant.rect.records[u]
  let r := x.report.getD absentRect
  let now := s.env.now
  recU 1 x.status.toNat ++ stationField (s.env.rectStation u) ++
  recU 1 (s.plant.rect.position u) ++
  recU 1 (bits [r.acOk, r.outputOn, r.limiting, x.report.isSome, x.commanded.isSome,
    x.commanded == some true, x.composed.isSome, s.plant.rect.inFlight == some u]) ++
  recU 4 r.voltage ++ recU 2 r.current ++ recU 2 r.rated ++ recS 2 r.temperature ++
  recU 1 r.fault ++ recU 1 x.lastCause.toNat ++ recU 1 (x.decline.getD 0) ++
  recU 1 x.history.length ++ recU 2 (secondsSince now x.history.getLast?) ++
  recU 4 (x.composed.getD (0, 0)).1 ++ recU 2 (x.composed.getD (0, 0)).2 ++
  recU 4 x.minutes ++ recU 2 (x.follow.seconds now) ++ recU 2 (x.recovery.seconds now)

/-- The STRING record (04 R83). -/
def State.stringRecord (i : StringIx) (s : State) : List Byte :=
  let x := s.plant.strings[i]
  recU 1 x.status.toNat ++
  recU 1 (bits [s.env.fitted i, x.tempValid, x.estimated, x.imbalance]) ++
  recU 4 x.voltage ++ recS 2 x.current ++ recS 2 x.temperature ++ recU 1 x.soc ++
  recS 4 x.shortfall ++ recS 4 x.residue ++ recU 2 (secondsSince s.env.now x.tPrev) ++
  recU 2 x.spread ++ recU 1 x.blocks.length ++ (x.blocks.take 19).flatMap (recU 2)

/-- The GENSET record (08 R176). -/
def State.gensetRecord (s : State) : List Byte :=
  let g := s.plant.gen
  let r : GensetReport := match g.report with
    | some x => x.1
    | none => ⟨.stopped, false, 0, 0, 0⟩
  recU 1 g.status.toNat ++ stationField s.env.gensetStation ++
  recU 1 (bits [g.report.isSome, r.available, r.fault != 0, g.decline.isSome, g.fuelLow,
    g.fuelCritical, s.env.tables.genset.fitted]) ++
  recU 1 r.engine.toNat ++ recU 1 r.fuel ++ recU 1 r.fault ++ recU 4 r.hours ++
  recU 2 (secondsSince s.env.now (g.report.map (·.2))) ++ recU 1 (g.decline.getD 0)

/-- The GEN_RUN record (08 R176). -/
def State.genRunRecord (s : State) : List Byte :=
  let g := s.plant.gen
  let now := s.env.now
  recU 1 g.run.toNat ++ recU 1 g.reasons.toNat ++ recU 1 g.attempts ++
  recU 1 (bits [g.contactOnly, g.retryDue, g.exerciseDue, g.startFailed, g.engineFailure,
    g.failedSinceRun, g.resetOutstanding, s.plant.outputs.genRun]) ++
  recU 1 g.lastCause.toNat ++ recU 4 ((now - g.since) / 1000) ++ recU 4 (g.runMs now / 1000) ++
  recU 4 (g.allowance.getD 0) ++ recU 2 (g.exerciseCount / 3600000) ++
  recU 4 (g.dischargeTime.seconds now)

/-- The PLANT record (05 R113). -/
def State.plantRecord (s : State) : List Byte :=
  let c := s.plant.charge
  let now := s.env.now
  recU 1 c.state.toNat ++ recU 1 c.source.toNat ++
  recU 1 (bits [c.mains, c.overTemp, c.highTemp, c.equalizePending, c.boostInhibit, c.boostTimeout,
    decide (c.trim < 0), s.env.hasInput .mainsSense]) ++
  recU 1 s.plant.battery.tSource.toNat ++ recU 4 ((now - c.stateSince) / 1000) ++
  recS 4 c.base ++ recS 2 c.trim ++ recU 4 c.setpoint ++ recS 2 c.tUsed ++ recS 4 c.compensation ++
  recU 2 c.iLim ++ recU 2 c.taperCurrent ++ recU 4 (c.boost.seconds now) ++
  recU 2 (min (c.taper.seconds now) 65535) ++ recU 2 (c.equalizeCount / 3600000)

/-- The STATION record (02 R23; log entry 25). -/
def State.stationRecord (st : Station) (s : State) : List Byte :=
  let x := s.env.entry st
  let l := s.plant.links[st]
  writeFields StationEntry.fields x.toInts ++ recU 1 l.status.toNat ++ recU 1 l.misses ++
  recU 1 l.goods ++ recU 2 (secondsSince s.env.now l.lastReply)

/-- The MIRROR record (02 R30). -/
def State.mirrorRecord (st : Station) (s : State) : List Byte :=
  match s.line.mirrors[st] with
  | none => recU 1 0 ++ recU 2 65535
  | some m =>
    recU 1 m.payload.length ++ recU 2 (secondsSince s.env.now (some m.time)) ++ m.payload.take 59

/-- The fields of an ALARM_POINT record that belong to an input; zeros for points 0 to 31 (10 R196). -/
def State.inputFields (p : PointIx) (s : State) : List Byte :=
  if h : 32 ≤ p.val then
    let i : InputIx := ⟨p.val - 32, by omega⟩
    let x := s.env.inputs[i]
    recU 1 s.env.tables.inputs[i].function.toNat ++ recU 1 (bits [x.accepted]) ++
    recU 1 x.samples ++
    (match x.lastChange with
      | some t => recU 4 t.site ++ recU 1 (bits [true, t.set])
      | none => recU 4 0 ++ recU 1 0)
  else recU 1 0 ++ recU 1 0 ++ recU 1 0 ++ recU 4 0 ++ recU 1 0

/-- The ALARM_POINT record (10 R196). -/
def State.pointRecord (p : PointIx) (s : State) : List Byte :=
  let x := s.plant.alarms.points[p]
  let a := s.env.alarm p
  recU 1 x.state.toNat ++
  recU 1 (bits [x.acked, x.condition, s.env.enabled p, a.latching,
    s.plant.alarms.notices.any fun n => n.point == p, nonMaskable p, x.raiseTime.isSome]) ++
  recU 1 a.severity.toNat ++ recU 1 a.route.toNat ++ recU 1 a.relaySet ++
  recU 2 (x.delay.seconds s.env.now) ++ recU 4 (x.raiseTime.getD 0) ++ s.inputFields p

/-- The CAPTURE record; zeros when it is empty (10 R195). -/
def State.captureRecord (s : State) : List Byte :=
  match s.plant.alarms.capture with
  | none => List.replicate 16 0
  | some c =>
    recU 1 (bits [true, c.moreFaults, c.stamp.set, c.bus.isSome]) ++ recU 1 c.point.val ++
    recU 1 c.severity.toNat ++ recU 4 c.stamp.site ++ recU 1 c.plant.toNat ++
    recU 1 c.source.toNat ++ busField c.bus ++ recU 1 c.soc ++ recU 1 c.run.toNat ++
    recU 1 c.activeRects

/-- The mark of a HISTORY read and the entry returned (10 R194; log entry 8). -/
def findHistory (n : Nat) (oldest newest : HistoryEntry) (ring : List HistoryEntry) :
    Nat × HistoryEntry :=
  match ring.find? fun h => h.seq == n with
  | some h => (0, h)
  | none =>
    if n < oldest.seq ∧ ¬ newest.seq < n then (1, oldest)
    else if newest.seq < n ∧ ¬ n < oldest.seq then (2, newest)
    else if Config.historyAhead n oldest.seq newest.seq then (2, newest)
    else (1, oldest)

/-- A HISTORY record (10 R194). -/
def historyBytes (mark newest : Nat) (h : HistoryEntry) : List Byte :=
  recU 1 mark ++ recU 4 newest ++ recU 4 h.seq ++ recU 4 h.stamp.site ++ recU 1 (bits [h.stamp.set]) ++
  recU 1 (match h.point with
    | some p => p.val
    | none => 255) ++
  recU 1 h.event.toNat ++ recU 1 h.event.causeNat

/-- The HISTORY record. The ring always holds an entry (10 R194); the content for an empty one is never sent. -/
def State.historyRecord (n : Nat) (s : State) : List Byte :=
  match s.plant.alarms.history.head?, s.plant.alarms.history.getLast? with
  | some oldest, some newest =>
    let r := findHistory n oldest newest s.plant.alarms.history
    historyBytes r.1 newest.seq r.2
  | _, _ => []

/-- The TEST_RESULT record (06 R124). -/
def State.testRecord (s : State) : List Byte :=
  let t := s.plant.test
  recU 1 t.outcome.toNat ++ recU 1 t.cause.toNat ++
  recU 1 (bits [t.stamp.set, t.minBus.isSome, t.pending, t.failed]) ++ recU 4 t.stamp.site ++
  recU 2 (t.secondsRun s.env.now) ++ recS 4 t.removed ++ busField t.minBus ++ recU 4 t.voltage ++
  recU 4 t.threshold ++ recU 2 (t.count / 3600000)

/-- A record chosen by an index below `n`. -/
def indexed (n : Nat) (record : Fin n → State → List Byte) (i : Nat) (s : State) : Option (List Byte) :=
  if h : i < n then some (record ⟨i, h⟩ s) else none

/-- A record chosen by a station 1 to 30. -/
def ofStation (record : Station → State → List Byte) (i : Nat) (s : State) : Option (List Byte) :=
  if h : 1 ≤ i ∧ i ≤ 30 then some (record ⟨i, by omega⟩ s) else none

/-- READ_RECORD RECTIFIER. -/
def execReadRecordRectifier (q : Req) (s : State) : Host.Outcome State Fault Refusal :=
  .next (s.recordOf 1 1 (indexed 12 State.rectRecord) q)

/-- READ_RECORD STRING. -/
def execReadRecordString (q : Req) (s : State) : Host.Outcome State Fault Refusal :=
  .next (s.recordOf 2 1 (indexed 4 State.stringRecord) q)

/-- READ_RECORD GENSET. -/
def execReadRecordGenset (q : Req) (s : State) : Host.Outcome State Fault Refusal :=
  .next (s.recordOf 3 0 (fun _ s => some s.gensetRecord) q)

/-- READ_RECORD GEN_RUN. -/
def execReadRecordGenRun (q : Req) (s : State) : Host.Outcome State Fault Refusal :=
  .next (s.recordOf 4 0 (fun _ s => some s.genRunRecord) q)

/-- READ_RECORD PLANT. -/
def execReadRecordPlant (q : Req) (s : State) : Host.Outcome State Fault Refusal :=
  .next (s.recordOf 5 0 (fun _ s => some s.plantRecord) q)

/-- READ_RECORD STATION. -/
def execReadRecordStation (q : Req) (s : State) : Host.Outcome State Fault Refusal :=
  .next (s.recordOf 6 1 (ofStation State.stationRecord) q)

/-- READ_RECORD MIRROR. -/
def execReadRecordMirror (q : Req) (s : State) : Host.Outcome State Fault Refusal :=
  .next (s.recordOf 7 1 (ofStation State.mirrorRecord) q)

/-- READ_RECORD ALARM_POINT. -/
def execReadRecordAlarmPoint (q : Req) (s : State) : Host.Outcome State Fault Refusal :=
  .next (s.recordOf 8 1 (indexed 40 State.pointRecord) q)

/-- READ_RECORD CAPTURE. -/
def execReadRecordCapture (q : Req) (s : State) : Host.Outcome State Fault Refusal :=
  .next (s.recordOf 9 0 (fun _ s => some s.captureRecord) q)

/-- READ_RECORD HISTORY. -/
def execReadRecordHistory (q : Req) (s : State) : Host.Outcome State Fault Refusal :=
  .next (s.recordOf 10 4 (fun n s => some (s.historyRecord n)) q)

/-- READ_RECORD TEST_RESULT. -/
def execReadRecordTestResult (q : Req) (s : State) : Host.Outcome State Fault Refusal :=
  .next (s.recordOf 11 0 (fun _ s => some s.testRecord) q)

end Sys2Proof.Machine
end

