-- ==== Sys2Proof/Machine/TableStore.lean ====
section
/-! DEFINITION. The working tables as entries and as the store's image: validity, reading, writing and
the check (03, 3.2 and 3.3; 02 R21, R27; 05 R86; 06 R126; 07 R136; 08 R157; 09 R178). -/

namespace Sys2Proof.Machine

/-! ### The further tests of the entries -/

/-- The number of unit indexes of a role; 0 for roles without units (02, 2.1). -/
def Role.units : Role → Nat
  | .rectifier => 12 | .stringMonitor => 4 | .genset => 1 | .unused | .foreign => 0

/-- A STATION_MAP entry as it is stored (02 R20, R21). -/
def StationEntry.normal (i : Nat) (x : StationEntry) : StationEntry :=
  if i = 0 then .default
  else if i = 31 ∨ i = 32 then { StationEntry.default with policy := x.policy }
  else if x.role.units = 0 then { x with unit := 0 }
  else x

/-- Whether another of stations 1 to 30 holds the same role and unit index (02 R21 step 5). -/
def unitTaken (m : Vector StationEntry 33) (i : Nat) (x : StationEntry) : Bool :=
  (indices 33).any fun j =>
    decide (1 ≤ j.val) && decide (j.val ≤ 30) && j.val != i && m[j].role == x.role && m[j].unit == x.unit

/-- Whether a STATION_MAP entry is valid for entry `i` (02 R21). -/
def stationOk (m : Vector StationEntry 33) (i : Nat) (x : StationEntry) : Bool :=
  if i = 0 then false
  else if i = 31 then x.role == .unused && !x.mirror
  else if i = 32 then true
  else x.role.units == 0 || (decide (x.unit < x.role.units) && !unitTaken m i x)

/-- Whether a POLL_LIST slot is valid for slot `i` (02 R27). -/
def slotOk (l : Vector PollSlot 24) (i : Nat) (x : PollSlot) : Bool :=
  x.station == 0 || !(indices 24).any fun j => j.val != i && l[j].station == x.station

/-- The ordering tests of PROFILE (05 R86). -/
def Profile.ordered (x : Profile) : Bool :=
  decide (x.busMin < x.busMax) && decide (x.clampLow < x.clampHigh) && decide (x.boostCell ≤ x.equalizeCell)

/-- The ordering test of RECTIFIER (07 R136). -/
def RectTable.ordered (x : RectTable) : Bool := decide (x.shareLow < x.shareHigh)

/-- The ordering tests of GENSET (08 R157). -/
def GensetTable.ordered (x : GensetTable) : Bool :=
  decide (x.startSoc < x.stopSoc) && decide (x.fuelCritical < x.fuelLow)

/-- The ordering test of LOAD_DISCONNECT (06 R126). -/
def LdTable.ordered (x : LdTable) : Bool := decide (x.disconnectVoltage < x.reconnectVoltage)

/-- Whether a function belongs to at most one input (09 R178). -/
def InputFunction.single : InputFunction → Bool
  | .mainsSense | .genFeedback | .ldFeedback => true
  | _ => false

/-- Whether an INPUTS entry is valid for input `i` (09 R178). -/
def inputOk (l : Vector InputEntry 8) (i : Nat) (x : InputEntry) : Bool :=
  !x.function.single || !(indices 8).any fun j => j.val != i && l[j].function == x.function

/-! ### Entries -/

/-- The field values of an entry (03 R52). -/
def Tables.entry (t : Tables) (id : TableId) (i : Nat) : List Int :=
  match id with
  | .stationMap => if h : i < 33 then t.stationMap[i].toInts else []
  | .pollList => if h : i < 24 then t.pollList[i].toInts else []
  | .fieldTiming => t.fieldTiming.toInts
  | .profile => t.profile.toInts
  | .strings => if h : i < 4 then t.strings[i].toInts else []
  | .plant => t.plant.toInts
  | .rectifier => t.rectifier.toInts
  | .genset => t.genset.toInts
  | .loadDisconnect => t.loadDisconnect.toInts
  | .inputs => if h : i < 8 then t.inputs[i].toInts else []
  | .relays => if h : i < 4 then [flag t.relays[i]] else []
  | .alarms => if h : i < 40 then t.alarms[i].toInts else []
  | .supervision => t.supervision.toInts

/-- Replace an entry of a collection, when there is one. -/
def replace {α : Type} {n : Nat} (v : Vector α n) (i : Nat) (x : Option α) : Option (Vector α n) :=
  match x with
  | some a => if h : i < n then some (v.set i a h) else none
  | none => none

/-- The tables with an entry replaced by field values, without any test. -/
def Tables.place (t : Tables) (id : TableId) (i : Nat) (vs : List Int) : Option Tables :=
  match id with
  | .stationMap =>
    (replace t.stationMap i ((StationEntry.ofInts vs).map (StationEntry.normal i))).map
      fun v => { t with stationMap := v }
  | .pollList => (replace t.pollList i (PollSlot.ofInts vs)).map fun v => { t with pollList := v }
  | .fieldTiming => (FieldTiming.ofInts vs).map fun v => { t with fieldTiming := v }
  | .profile => (Profile.ofInts vs).map fun v => { t with profile := v }
  | .strings => (replace t.strings i (StringsEntry.ofInts vs)).map fun v => { t with strings := v }
  | .plant => (PlantTable.ofInts vs).map fun v => { t with plant := v }
  | .rectifier => (RectTable.ofInts vs).map fun v => { t with rectifier := v }
  | .genset => (GensetTable.ofInts vs).map fun v => { t with genset := v }
  | .loadDisconnect => (LdTable.ofInts vs).map fun v => { t with loadDisconnect := v }
  | .inputs => (replace t.inputs i (InputEntry.ofInts vs)).map fun v => { t with inputs := v }
  | .relays =>
    match vs with
    | [b] => (replace t.relays i (some (readFlag b))).map fun v => { t with relays := v }
    | _ => none
  | .alarms => (replace t.alarms i (AlarmEntry.ofInts vs)).map fun v => { t with alarms := v }
  | .supervision => (Supervision.ofInts vs).map fun v => { t with supervision := v }

/-- A test of an entry that could be read. -/
def holds {α : Type} (x : Option α) (test : α → Bool) : Bool :=
  match x with
  | some a => test a
  | none => false

/-- Whether an entry passes the further tests its table states (03 R49). -/
def Tables.accepts (t : Tables) (id : TableId) (i : Nat) (vs : List Int) : Bool :=
  match id with
  | .stationMap => holds (StationEntry.ofInts vs) fun x => stationOk t.stationMap i x
  | .pollList => holds (PollSlot.ofInts vs) fun x => slotOk t.pollList i x
  | .profile => holds (Profile.ofInts vs) Profile.ordered
  | .rectifier => holds (RectTable.ofInts vs) RectTable.ordered
  | .genset => holds (GensetTable.ofInts vs) GensetTable.ordered
  | .loadDisconnect => holds (LdTable.ofInts vs) LdTable.ordered
  | .inputs => holds (InputEntry.ofInts vs) fun x => inputOk t.inputs i x
  | .fieldTiming | .strings | .plant | .relays | .alarms | .supervision => true

/-- Whether an entry is valid (03 R49). -/
def Tables.valid (t : Tables) (id : TableId) (i : Nat) (vs : List Int) : Bool :=
  fieldsOk (id.fieldsAt i) vs && t.accepts id i vs

/-- The tables with a valid entry written whole; none when the entry is invalid (03 R49). -/
def Tables.write (t : Tables) (id : TableId) (i : Nat) (vs : List Int) : Option Tables :=
  if t.valid id i vs then t.place id i vs else none

/-! ### The image -/

/-- The bytes of an entry (03 R49). -/
def Tables.entryBytes (t : Tables) (id : TableId) (i : Nat) : List Byte :=
  writeFields id.fields (t.entry id i)

/-- The entries of all thirteen tables in table order (03 R54). -/
def Tables.bytes (t : Tables) : List Byte :=
  TableId.all.flatMap fun id => (List.range id.count).flatMap (t.entryBytes id)

/-- The image of tables: the entries, then the check (03 R54). -/
def Tables.image (t : Tables) : List Byte := t.bytes ++ be 2 (crc16 t.bytes)

/-- The entries of one table from index `i` on loaded from bytes, with the bytes left. -/
def loadTable (id : TableId) : Nat → Nat → List Byte → Tables → Option (Tables × List Byte)
  | 0, _, bs, t => some (t, bs)
  | k + 1, i, bs, t =>
    match t.place id i (readFields id.fields (bs.take id.entrySize)) with
    | some t => loadTable id k (i + 1) (bs.drop id.entrySize) t
    | none => none

/-- Tables loaded in turn from bytes. -/
def loadTables : List TableId → List Byte → Tables → Option Tables
  | [], bs, t => if bs.isEmpty then some t else none
  | id :: ids, bs, t =>
    match loadTable id id.count 0 bs t with
    | some (t, bs) => loadTables ids bs t
    | none => none

/-- Whether every entry of the tables is one that a write could have left: within its fields' values
and past the further tests. -/
def Tables.wf (t : Tables) : Bool :=
  t.stationMap[0] == .default &&
    (TableId.all.all fun id => (List.range id.count).all fun i =>
      fieldsOk id.fields (t.entry id i) &&
        ((id == .stationMap && i == 0) || t.accepts id i (t.entry id i))) &&
    ((indices 33).all fun i => t.stationMap[i].normal i.val == t.stationMap[i])

/-- The number of bytes of the entries of all thirteen tables (03 R49, R54). -/
def entriesSize : Nat := (TableId.all.map fun id => id.count * id.entrySize).sum

/-- Whether the check of an image passes (03 R54); that of an image of another length fails, a DESIGN CHOICE
(log entry 27). -/
def checkPasses (image : List Byte) : Bool :=
  decide (image.length = entriesSize + 2) &&
    beVal (image.drop (image.length - 2)) == crc16 (image.take (image.length - 2))

/-- The tables that an image holds; none when its check fails. The entries are loaded as they stand, whatever
their values (03 R54, R56; log entry 27). -/
def loadImage (image : List Byte) : Option Tables :=
  if checkPasses image then loadTables TableId.all (image.take (image.length - 2)) .default else none

/-- An image with the medium's damage: bytes exclusive-ored onto it from the first on. -/
def damaged : List Byte → List Byte → List Byte
  | b :: bs, d :: ds => (b ^^^ d) :: damaged bs ds
  | bs, _ => bs

end Sys2Proof.Machine
end

