-- ==== Sys2Proof/Machine/TableAccess.lean ====
section
/-! DEFINITION. Table access and the table store's commands (03, 3.2 to 3.4), and the effects of each
table's writes (02 R22, R25, R43; 03 R59; 04 R66; 05 R87, R89; 06 R115, R126; 07 R136; 08 R157; 09 R178;
10 R185). -/

namespace Sys2Proof.Machine

/-! ### STATION_MAP -/

/-- The plant after a change of a station's role or unit index: `old` is the entry before it (02 R22). That the
station's orders are removed before the notices act is a DESIGN CHOICE: what a refill then offers finds their
places free (log entry 67). -/
def Plant.remap (e : Env) (st : Station) (old : StationEntry) (p : Plant) : Plant :=
  let new := e.entry st
  let p := p.setQueue (p.queue.filter fun o => !(o.station == st))
  ({ p with links := put p.links st (.fresh new.role) }).post
    (old.notify .absent ++ new.notify .discovering ++ old.linkReaders ++ new.linkReaders)

/-- The line side of a change of a station's role or unit index (02 R22, R30). -/
def Line.remap (st : Station) (l : Line) : Line :=
  { l with
    mirrors := put l.mirrors st none
    txn := l.txn.map fun x => if x.station == st then { x with voided := true } else x }

/-- A STATION_MAP entry of a station 1 to 30 was written (02 R22, R25). -/
def State.mapWritten (st : Station) (old : StationEntry) (s : State) : State :=
  let new := s.env.entry st
  let s :=
    if old.role != new.role || old.unit != new.unit then
      { s with plant := s.plant.remap s.env st old, line := s.line.remap st }
    else if old.mirror && !new.mirror then
      { s with line := { s.line with mirrors := put s.line.mirrors st none } }
    else s
  s.post [.fieldBus]

/-! ### FIELD_TIMING, SUPERVISION, INPUTS -/

/-- The plant bus rate takes effect while no transaction is in progress (01 R1). -/
def Line.followRate (rate : Nat) (l : Line) : Line :=
  if l.txn.isNone then { l with rate := rate } else l

/-- An INPUTS entry was written (09 R178, R181). Every reader works out against the table that holds the new
entry (log entry 44). -/
def State.inputWritten (i : InputIx) (old : InputEntry) (s : State) : State :=
  let r := (s.env.inputs[i]).rewrite s.env.now s.env.stamp old s.env.tables.inputs[i] i
  ({ s with env := { s.env with inputs := put s.env.inputs i r.1 } }).post r.2

/-! ### PROFILE, PLANT, STRINGS -/

/-- A PROFILE entry was written (05 R87). The setpoint is worked out before anything is handed on, so that
none of the old limits is used. That the recomputation of 04 R80 after a changed overcharge allowance (04
R66), with the examination its handing causes, comes after the setpoint is worked out and before it is handed
to the rectifier duty unit is a DESIGN CHOICE (log entry 53). That the boost timer expires before the taper
hold timer when the write makes both expire is a DESIGN CHOICE: R101 gives a result for either order (log
entry 45). -/
def Plant.profileWritten (e : Env) (old : Profile) (p : Plant) : Plant :=
  let x := e.tables.profile
  let p := (p.reclampAll e).storeSetpoint e
  let p := (p.postIf (old.overcharge != x.overcharge) [.recompute]).post (setpointReaders ++ [.examine])
  (p.remeasure e .boost (hours x.boostMax)).remeasure e .taper (minutes x.taperHold)

/-- What a write of an interval field does to the count that runs toward it: the count after it, and
whether the interval expires at once (05 R89, 06 R115, 07 R136, 08 R157). -/
def recount (old new count : Nat) (runs : Bool) : Nat × Bool :=
  if new = 0 then (0, false)
  else if old = 0 then (0, false)
  else (count, old != new && runs && decide (hours new ≤ count))

/-- A PLANT entry was written (05 R89, 06 R115, R121, 10 R186; the order of expiries: log entry 45). That the bus
voltage points are worked out before the examination, and that the interval counts fall due before the timers
expire, is a DESIGN CHOICE (log entries 63 and 68). -/
def Plant.plantWritten (e : Env) (old : PlantTable) (p : Plant) : Plant :=
  let t := e.tables.plant
  let eq := recount old.equalizeInterval t.equalizeInterval p.charge.equalizeCount (p.equalizeCounts e)
  let p := { p with charge := { p.charge with equalizeCount := eq.1 } }
  let p := if eq.2 then p.equalizeIntervalExpired else p
  let tc := recount old.testInterval t.testInterval p.test.count (p.testCounts e)
  let p := { p with test := { p.test with
    count := tc.1, pending := p.test.pending && !(old.testInterval != 0 && t.testInterval == 0) } }
  let p := if tc.2 then p.testIntervalExpired else p
  let p := p.remeasure e .startHold (sec t.startUpHold)
  let p := p.remeasure e .dischargeDebounce (sec t.debounce)
  let p := p.remeasure e .recoveryDebounce (sec t.debounce)
  let p := p.remeasure e .equalizeDuration (hours t.equalizeDuration)
  let p := p.remeasure e .testDuration (minutes t.testDuration)
  p.post [.busConds, .examine]

/-! ### RECTIFIER, GENSET, LOAD_DISCONNECT -/

/-- A RECTIFIER entry was written (07 R136; the order of expiries: log entry 45). That the rotation that falls
due is examined first, the timers expire next, and the floor of N_min is applied last is a DESIGN CHOICE: it
decides whether a rotation starts or a walk-in bars it (log entry 68). -/
def Plant.rectTableWritten (e : Env) (old : RectTable) (p : Plant) : Plant :=
  let t := e.tables.rectifier
  let rc := recount old.rotationInterval t.rotationInterval p.rect.rotationCount
    (!p.rect.rotationPending)
  let p := p.onRect fun r => { r with rotationCount := rc.1 }
  let p := if rc.2 then p.rotationExpired else p
  let p := p.remeasure e .shed (sec t.shedDelay)
  let p := p.remeasure e .stagger (sec (if p.rect.staggerMains then t.staggerMains else t.staggerGenerator))
  let p := (indices 12).foldl (fun p u =>
    (p.remeasure e (.follow u) (sec t.followTime)).remeasure e (.recovery u) (sec t.recoveryTime)) p
  p.post [.floor]

/-- A timer measured against a length that can be 0 (off), which stops it (08 R157). -/
def Plant.remeasureOrStop (e : Env) (id : TimerId) (length : Nat) (p : Plant) : Plant :=
  if length = 0 then p.setTimer .stopped id else p.remeasure e id length

/-- A changed fitted field of GENSET (08 R157, R171). -/
def Plant.fittedWritten (e : Env) (old : GensetTable) (p : Plant) : Plant :=
  match old.fitted, e.tables.genset.fitted with
  | true, false => p.genUnfit e
  | false, true => p.genFit e
  | _, _ => p

/-- Whether a lowered exercise duration is reached by the run time (08 R157). -/
def Plant.exerciseLowered (e : Env) (old : GensetTable) (p : Plant) : Bool :=
  p.exerciseDone e && decide (p.gen.runMs e.now < sec old.exerciseDuration)

/-- A GENSET entry was written (08 R157, 10 R186; the order of expiries: log entry 45). That LOW_SOC is worked
out last, after the reason examination, is a DESIGN CHOICE (log entry 63), and so is the order of the other effects
(log entry 68). A retry interval
written 0 stops the running timer; a retry already due stays due, a DESIGN CHOICE (08 R157, R170; log entry
48). -/
def Plant.gensetWritten (e : Env) (old : GensetTable) (p : Plant) : Plant :=
  let t := e.tables.genset
  let p := p.fittedWritten e old
  let rc := recount old.exerciseInterval t.exerciseInterval p.gen.exerciseCount (p.exerciseCounts e)
  let p := p.onGen fun g => { g with
    exerciseCount := rc.1, exerciseDue := g.exerciseDue && !(old.exerciseInterval != 0 && t.exerciseInterval == 0) }
  let p := if rc.2 then p.exerciseExpired else p
  let p := p.remeasure e .crank (sec t.crankTime)
  let p := p.remeasure e .rest (sec t.rest)
  let p := p.remeasure e .warmup (sec t.warmup)
  let p := p.remeasure e .warmupSecond (sec t.warmup)
  let p := p.remeasure e .cooldown (sec t.cooldown)
  let p := p.remeasure e .stopConfirm (sec t.stopConfirm)
  let p := p.remeasureOrStop e .retry (sec t.retryInterval)
  let p := p.remeasureOrStop e .dischargeTime (hours t.maxDischarge)
  let p := p.postIf (p.exerciseLowered e old) [.exerciseReached]
  p.post [.actOnReasons, .workAllowance, .fuel, .reasonExam, .busConds]

/-- A LOAD_DISCONNECT entry was written (06 R126). -/
def Plant.ldWritten (e : Env) (p : Plant) : Plant :=
  let x := e.tables.loadDisconnect
  ((p.remeasure e .disconnect (sec x.disconnectDelay)).remeasure e .reconnect (sec x.reconnectDelay)).post
    [.ldExam]

/-! ### ALARMS -/

/-- The length of a point's delay timer in its state (10 R187). -/
def AlarmEntry.delayOf (x : AlarmEntry) : PointState → Nat
  | .raising => sec x.raiseDelay
  | _ => sec x.clearDelay

/-- An ALARMS entry was written; `wasCritical` says whether the point was an enabled CRITICAL one
before (10 R185). -/
def Plant.alarmWritten (e : Env) (i : PointIx) (wasCritical : Bool) (p : Plant) : Plant :=
  let x := p.alarms.points[i]
  let p := p.postIf (!wasCritical && e.critical i && x.state == .active) [.testAbort .abortedAlarm]
  p.remeasure e (.delay i) ((e.alarm i).delayOf x.state)

/-! ### The write of one entry -/

/-- What a written entry does at once (03 R49). `old` is the state before the write; this state holds
the new tables. -/
def State.written (old : Env) (id : TableId) (i : Nat) (s : State) : State :=
  match id with
  | .stationMap =>
    if h : 1 ≤ i ∧ i ≤ 30 then s.mapWritten ⟨i, by omega⟩ (old.entry ⟨i, by omega⟩)
    else s.post [.fieldBus]
  | .pollList => s.post [.fieldBus]
  | .fieldTiming => { s with line := s.line.followRate s.env.tables.fieldTiming.rate }
  | .profile => s.onPlant fun e p => p.profileWritten e old.tables.profile
  | .strings =>
    if h : i < 4 then s.onPlant fun e p => p.capacityChanged e ⟨i, h⟩ old.tables.strings[i] else s
  | .plant => s.onPlant fun e p => p.plantWritten e old.tables.plant
  | .rectifier => s.onPlant fun e p => p.rectTableWritten e old.tables.rectifier
  | .genset => s.onPlant fun e p => p.gensetWritten e old.tables.genset
  | .loadDisconnect => s.onPlant fun e p => p.ldWritten e
  | .inputs => if h : i < 8 then s.inputWritten ⟨i, h⟩ old.tables.inputs[i] else s
  | .relays => s
  | .alarms =>
    if h : i < 40 then s.onPlant fun e p => p.alarmWritten e ⟨i, h⟩ (old.critical ⟨i, h⟩) else s
  | .supervision => s.restartSilence

/-- The state with new working tables. -/
def State.withTables (t : Tables) (s : State) : State := { s with env := { s.env with tables := t } }

/-- One entry offered at the cursor: written with its immediate effects and the tables unsaved, or none
when it is invalid (03 R49, R51, R53). -/
def State.writeEntry (bs : List Byte) (s : State) : Option State :=
  let c := s.request.cursor
  match s.env.tables.write c.table c.index (readFields c.table.fields bs) with
  | none => none
  | some t =>
    let w := ((s.withTables t).written s.env c.table c.index).onRequest fun r => { r with
      unsaved := true, cursor := { c with index := c.index + 1 } }
    some (w.post [.cond 27 true]).settle

/-- Entries written in turn up to the first invalid one: the state, and the count written (03 R51). -/
def State.writeAll : List (List Byte) → State → State × Nat
  | [], s => (s, 0)
  | x :: xs, s =>
    match s.writeEntry x with
    | none => (s, 0)
    | some s =>
      let r := State.writeAll xs s
      (r.1, r.2 + 1)

/-- WRITE_ENTRIES carried out (03 R51). -/
def State.writeEntries (params : List Byte) (s : State) : Done :=
  let c := s.request.cursor
  match params with
  | [] => s.refuse .badEntry []
  | k :: bs =>
    if bs.length ≠ k.toNat * c.table.entrySize then s.refuse .badEntry []
    else if s.store.state == .saving then s.refuse .busy []
    else if c.table.count < c.index + k.toNat then s.refuse .range []
    else if c.table == .profile && s.request.lock then s.refuse .locked []
    else
      let r := s.writeAll (pieces c.table.entrySize k.toNat bs)
      ⟨r.1, if r.2 = k.toNat then .ok else .badEntry, recU 1 r.2⟩

/-- WRITE_ENTRIES. -/
def execWriteEntries (q : Req) (s : State) : Host.Outcome State Fault Refusal :=
  .next (s.requestOf 0x05 q State.writeEntries)

/-- READ_ENTRIES carried out (03 R52). -/
def State.readEntries (params : List Byte) (s : State) : Done :=
  let c := s.request.cursor
  match params with
  | [k] =>
    if c.table.count < c.index + k.toNat ∨ 61 < k.toNat * c.table.entrySize then s.refuse .range []
    else
      let s' := s.onRequest fun r => { r with cursor := { c with index := c.index + k.toNat } }
      ⟨s', .ok, k :: (List.range k.toNat).flatMap fun j => s.env.tables.entryBytes c.table (c.index + j)⟩
  | _ => s.refuse .badEntry []

/-- READ_ENTRIES. -/
def execReadEntries (q : Req) (s : State) : Host.Outcome State Fault Refusal :=
  .next (s.requestOf 0x06 q State.readEntries)

/-- CURSOR carried out (03 R50). -/
def State.setCursor (params : List Byte) (s : State) : Done :=
  match params with
  | [t, i] =>
    match TableId.all[t.toNat]? with
    | some id =>
      if i.toNat < id.count then ⟨s.onRequest fun r => { r with cursor := ⟨id, i.toNat⟩ }, .ok, []⟩
      else s.refuse .range []
    | none => s.refuse .range []
  | _ => s.refuse .badEntry []

/-- CURSOR. -/
def execCursor (q : Req) (s : State) : Host.Outcome State Fault Refusal :=
  .next (s.requestOf 0x04 q State.setCursor)

/-! ### The table store's commands -/

/-- SAVE_TABLES carried out: the image takes the tables in force (03 R55). -/
def State.saveTables (s : State) : Done :=
  if s.store.state == .saving then s.refuse .busy []
  else ⟨{ s with store := { s.store with state := .saving, image := s.env.tables.image } }, .ok, []⟩

/-- SAVE_TABLES. -/
def execSaveTables (q : Req) (s : State) : Host.Outcome State Fault Refusal :=
  .next (s.plainCommand 0x11 State.saveTables q)

/-- The write of a save ends: the image is read back and checked (03 R54, R55). That STORE_INVALID is handed
before TABLES_UNSAVED is a DESIGN CHOICE (log entry 57). -/
def State.saveEnds (damage : List Byte) (s : State) : State :=
  let image := damaged s.store.image damage
  let good := (loadImage image).isSome
  let s := { s with store := ⟨if good then .valid else .invalid, image⟩ }
  (s.onRequest fun r => { r with unsaved := !good }).post [.cond 26 (!good), .cond 27 (!good)]

/-- SAVE_COMPLETE. -/
def execSaveComplete (t : Nat) (damage : List Byte) (s : State) : Host.Outcome State Fault Refusal :=
  .next <|
    if s.store.state == .saving then ((s.bringTo t).saveEnds damage).finish else s

/-- LOCK_PROFILE carried out (03 R57). -/
def State.lockProfile (s : State) : Done :=
  if s.store.state == .saving then s.refuse .busy []
  else ⟨s.onRequest fun r => { r with lock := true }, .ok, []⟩

/-- LOCK_PROFILE. -/
def execLockProfile (q : Req) (s : State) : Host.Outcome State Fault Refusal :=
  .next (s.plainCommand 0x12 State.lockProfile q)

end Sys2Proof.Machine
end

