-- ==== Sys2Proof/Machine/Commands.lean ====
section
/-! DEFINITION. The COMMAND rows other than those of the tables (03 R48). -/

namespace Sys2Proof.Machine

/-! ### Charge control, battery test, strings -/

/-- FORCE_BOOST carried out (05 R99). -/
def Plant.forceBoost (e : Env) (p : Plant) : Option Plant :=
  if p.charge.state == .float && !p.charge.overTemp then some (p.changePlant e .boost) else none

/-- FORCE_BOOST. -/
def execForceBoost (q : Req) (s : State) : Host.Outcome State Fault Refusal :=
  .next (s.plantCommand 0x01 Plant.forceBoost q)

/-- START_EQUALIZE carried out (05 R103). -/
def Plant.startEqualize (_e : Env) (p : Plant) : Option Plant :=
  if p.charge.state == .float && !p.charge.overTemp then
    some (({ p with charge := { p.charge with equalizePending := true } }).post [.examine])
  else none

/-- START_EQUALIZE. -/
def execStartEqualize (q : Req) (s : State) : Host.Outcome State Fault Refusal :=
  .next (s.plantCommand 0x02 Plant.startEqualize q)

/-- START_TEST carried out (06 R117). -/
def Plant.startTest (e : Env) (p : Plant) : Option Plant :=
  if p.testMayStart e then some (p.testBegin e .command) else none

/-- START_TEST. -/
def execStartTest (q : Req) (s : State) : Host.Outcome State Fault Refusal :=
  .next (s.plantCommand 0x03 Plant.startTest q)

/-- STOP_TEST carried out (06 R115, R122). -/
def Plant.stopTest (e : Env) (p : Plant) : Option Plant :=
  if p.charge.state == .test then some (p.testEnd e .abortedCommand)
  else if p.test.pending then some { p with test := { p.test with pending := false, count := 0 } }
  else none

/-- STOP_TEST. -/
def execStopTest (q : Req) (s : State) : Host.Outcome State Fault Refusal :=
  .next (s.plantCommand 0x04 Plant.stopTest q)

/-- RESYNC_FULL carried out (04 R82). -/
def Plant.resyncFull (e : Env) (p : Plant) : Option Plant :=
  if p.charge.state == .float then some (p.resync e) else none

/-- RESYNC_FULL. -/
def execResyncFull (q : Req) (s : State) : Host.Outcome State Fault Refusal :=
  .next (s.plantCommand 0x05 Plant.resyncFull q)

/-! ### Generator runs -/

/-- GEN_START carried out (08 R164). -/
def Plant.genStart (_e : Env) (p : Plant) : Option Plant :=
  if p.gen.run == .disabled || p.gen.run == .lockedOut then none
  else some ((p.onGen fun g => { g with reasons := { g.reasons with manual := true } }).post
    [.actOnReasons])

/-- GEN_START. -/
def execGenStart (q : Req) (s : State) : Host.Outcome State Fault Refusal :=
  .next (s.plantCommand 0x06 Plant.genStart q)

/-- GEN_STOP carried out (08 R163, R164). -/
def Plant.genStop (_e : Env) (p : Plant) : Option Plant :=
  let g := p.gen
  some ((p.onGen fun g => { g with
    exerciseDue := g.exerciseDue && !g.reasons.exercise
    exerciseCount := if g.reasons.exercise then 0 else g.exerciseCount
    reasons := { g.reasons with manual := false, exercise := false } }).postIf
      (g.reasons.manual || g.reasons.exercise) [.actOnReasons])

/-- GEN_STOP. -/
def execGenStop (q : Req) (s : State) : Host.Outcome State Fault Refusal :=
  .next (s.plantCommand 0x07 Plant.genStop q)

/-- GEN_RESET carried out (08 R171). -/
def Plant.genReset (e : Env) (p : Plant) : Option Plant :=
  if p.gen.run == .failed || p.gen.run == .lockedOut then
    let p := p.onGen fun g => { g with
      attempts := 0, retryDue := false
      startFailed := false, engineFailure := false, failedSinceRun := false
      resetOutstanding := !g.contactOnly }
    some ((p.offerEngine e .reset).enterRun e .off)
  else none

/-- GEN_RESET. -/
def execGenReset (q : Req) (s : State) : Host.Outcome State Fault Refusal :=
  .next (s.plantCommand 0x08 Plant.genReset q)

/-! ### Rectifier duty -/

/-- RECT_LOCKOUT of a unit carried out (07 R141). -/
def Plant.rectLockout (e : Env) (u : RectIx) (p : Plant) : Option Plant :=
  let old := p.rect.status u
  match old with
  | .absent | .discovering => none
  | .lockedOut => some p
  | _ =>
    if old.onDuty && p.rect.duty.length == 1 then none
    else
      let p := p.onRect fun r => (r.joinOut u .lockedOut).endRotationOf u
      some ((p.offerState e u false).post (leftReaders old))

/-- RECT_RESTORE of a unit carried out (07 R141). -/
def Plant.rectRestore (e : Env) (u : RectIx) (p : Plant) : Option Plant :=
  if p.rect.status u == .lockedOut then
    let p := p.modifyRect u fun x => { x with history := [], lastCause := .none }
    if p.linkOf (e.rectStation u) == .lost then
      some ((p.onRect fun r => r.joinOut u .lost).post [.rectConds])
    else some (p.joinStandby u)
  else none

/-- A command with a rectifier's unit index: above 11 the answer is RANGE (03 R48). -/
def State.rectCommand (sub : Byte) (act : Env → RectIx → Plant → Option Plant) (q : Req) (s : State) :
    State :=
  s.commandOf sub (fun n => n == 1) (fun args s =>
    if h : beVal args < 12 then
      match act s.env ⟨beVal args, h⟩ s.plant with
      | some p => ⟨{ s with plant := p }, .ok, []⟩
      | none => s.refuse .refusedState []
    else s.refuse .range []) q

/-- RECT_LOCKOUT. -/
def execRectLockout (q : Req) (s : State) : Host.Outcome State Fault Refusal :=
  .next (s.rectCommand 0x09 Plant.rectLockout q)

/-- RECT_RESTORE. -/
def execRectRestore (q : Req) (s : State) : Host.Outcome State Fault Refusal :=
  .next (s.rectCommand 0x0A Plant.rectRestore q)

/-- ROTATE_NOW carried out (07 R149). -/
def Plant.rotateNow (e : Env) (p : Plant) : Option Plant :=
  if p.charge.state == .startUp || e.mode == .manual || p.rect.inFlight.isSome ||
      p.rect.standbys.isEmpty then none
  else some ((p.onRect fun r => { r with rotationPending := true }).post [.rotationExam])

/-- ROTATE_NOW. -/
def execRotateNow (q : Req) (s : State) : Host.Outcome State Fault Refusal :=
  .next (s.plantCommand 0x0B Plant.rotateNow q)

/-! ### Mode -/

/-- MODE_MANUAL carried out (03 R58). -/
def State.modeManual (s : State) : Done :=
  ⟨if s.env.mode == .auto then s.toManual else s, .ok, []⟩

/-- MODE_MANUAL. -/
def execModeManual (q : Req) (s : State) : Host.Outcome State Fault Refusal :=
  .next (s.plainCommand 0x0C State.modeManual q)

/-- MODE_AUTO carried out (03 R58). -/
def State.modeAuto (s : State) : Done :=
  ⟨if s.env.mode == .manual then s.toAuto else s, .ok, []⟩

/-- MODE_AUTO. -/
def execModeAuto (q : Req) (s : State) : Host.Outcome State Fault Refusal :=
  .next (s.plainCommand 0x0D State.modeAuto q)

/-! ### Alarms -/

/-- The points that ACK selects, in ascending order: all without parameters, otherwise the mask's bits (03 R48). -/
def ackSelection (args : List Byte) : List PointIx :=
  if args.isEmpty then indices 40 else (indices 40).filter fun i => (beVal args).testBit i.val

/-- ACK carried out (10 R189). -/
def State.ack (args : List Byte) (s : State) : Done :=
  let r := Plant.ackPoints s.env (ackSelection args) s.plant
  ⟨{ s with plant := r.1 }, .ok, recU 1 r.2⟩

/-- ACK. -/
def execAck (q : Req) (s : State) : Host.Outcome State Fault Refusal :=
  .next (s.commandOf 0x0E (fun n => n == 0 || n == 5) State.ack q)

/-- RELEASE_CAPTURE carried out (10 R195). -/
def Plant.releaseCapture (_e : Env) (p : Plant) : Option Plant :=
  some { p with alarms := { p.alarms with capture := none } }

/-- RELEASE_CAPTURE. -/
def execReleaseCapture (q : Req) (s : State) : Host.Outcome State Fault Refusal :=
  .next (s.plantCommand 0x0F Plant.releaseCapture q)

/-! ### Site time and restart -/

/-- SET_TIME carried out (03 R64). -/
def State.setTime (args : List Byte) (s : State) : Done :=
  ⟨{ s with env := { s.env with clock := { s.env.clock with
      site := beVal args, siteSet := true, secondStart := s.env.clock.now } } }, .ok, []⟩

/-- SET_TIME. -/
def execSetTime (q : Req) (s : State) : Host.Outcome State Fault Refusal :=
  .next (s.commandOf 0x10 (fun n => n == 4) State.setTime q)

/-- RESTART: answered OK in every state; its reset begins once the answer has been sent (03 R62). -/
def execRestart (q : Req) (s : State) : Host.Outcome State Fault Refusal :=
  .next (s.plainCommand 0x13 (fun s => ⟨s, .ok, []⟩) q)

end Sys2Proof.Machine
end

