-- ==== Sys2Proof/Machine/Bus.lean ====
section
/-! DEFINITION. The plant bus: transactions, the arbiter, polling, and the exchange pool with its guard
(01 R13; 02, 2.2 to 2.7). -/

namespace Sys2Proof.Machine

/-- The state with its line side changed. -/
def State.onLine (f : Line → Line) (s : State) : State := { s with line := f s.line }

/-! ### Polling -/

/-- Whether a class is due at a cycle count; a LOST station counts as SLOW (02 R28). -/
def PollClass.due (lost : Bool) (cycle : Nat) (c : PollClass) : Bool :=
  if lost then cycle == 0
  else match c with
    | .every => true
    | .alternate => cycle % 2 == 0
    | .slow => cycle == 0

/-- The station that a slot calls for at a cycle count (02 R28). -/
def Plant.dueAt (e : Env) (cycle : Nat) (pos : Nat) (p : Plant) : Option Station :=
  if h : pos < 24 then
    match e.slotStation ⟨pos, h⟩ with
    | some st =>
      if e.tables.pollList[pos].cls.due (p.links[st].status == .lost) cycle then some st else none
    | none => none
  else none

/-- The poll position and the cycle count after a slot (02 R28). -/
def nextSlot (pos cycle : Nat) : Nat × Nat :=
  if 23 ≤ pos then (0, (cycle + 1) % 8) else (pos + 1, cycle)

/-- The next due poll within `n` slots, with the poll position and the cycle count after it (02 R28). -/
def Plant.searchPoll (e : Env) (p : Plant) : Nat → Nat → Nat → Option (Station × Nat × Nat)
  | 0, _, _ => none
  | n + 1, pos, cycle =>
    match p.dueAt e cycle pos with
    | some st => some (st, nextSlot pos cycle)
    | none => Plant.searchPoll e p n (nextSlot pos cycle).1 (nextSlot pos cycle).2

/-- The next due poll, through eight full cycles (02 R28). -/
def State.nextPoll (s : State) : Option (Station × Nat × Nat) :=
  s.plant.searchPoll s.env 192 s.line.pollPos s.line.cycle

/-! ### Guard and clamp -/

/-- The policy that governs an exchange (02 R38). -/
def Env.policy (e : Env) (target : Station) : Policy :=
  if target.val = 31 then e.tables.stationMap[31].policy
  else if e.role target == .unused then e.tables.stationMap[32].policy
  else (e.entry target).policy

/-- Whether a role's setting belongs to the part in AUTO (02 R38). -/
def Role.guarded : Role → Bool
  | .rectifier | .genset => true
  | _ => false

/-- Whether the guard passes an exchange (02 R38). -/
def Env.guardPasses (e : Env) (target : Station) (kind : BusKind) : Bool :=
  e.policy target != .block &&
    !(e.mode == .auto && kind == .order &&
      if target.val = 31 then fieldStations.any fun st => (e.role st).guarded
      else (e.role target).guarded)

/-- The rectifier that a station names, if any. -/
def Env.rectOf (e : Env) (st : Station) : Option RectIx :=
  if e.role st == .rectifier then
    if h : (e.entry st).unit < 12 then some ⟨(e.entry st).unit, h⟩ else none
  else none

/-- The share of the allowance that a relayed limit may carry (02 R39). -/
def Plant.relayShare (e : Env) (target : Station) (allowance : Nat) (p : Plant) : Nat :=
  if target.val = 31 then
    allowance / max 1 (fieldStations.countP fun st => e.role st == .rectifier)
  else
    let share := allowance / max 1 p.activeCount
    match e.rectOf target with
    | some u =>
      match p.rect.records[u].report with
      | some r => min share r.rated
      | none => share
    | none => share

/-- An inner payload as it is sent: a SET_OUTPUT under CLAMP has its two fields rewritten in place (02 R39). -/
def Plant.clampPayload (e : Env) (target : Station) (kind : BusKind) (p : Plant) (inner : List Byte) :
    List Byte :=
  if e.policy target == .clamp && kind == .order then
    match readSetOutput inner with
    | some (v, l) =>
      let l := match p.gen.allowance with
        | some a => min l (p.relayShare e target a)
        | none => l
      (OrderBody.setOutput (e.tables.profile.clampBus v) l).payload
    | none => inner
  else inner

/-! ### Sending -/

/-- A frame begins on the plant bus under the next bus tag (01 R13). -/
def Line.send (st : Station) (kind : BusKind) (payload : List Byte) (carried : Carried) (l : Line) : Line :=
  let tag : Byte := BitVec.ofNat 8 l.tagCount
  { l with
    sent := some (Frame.encode ⟨BitVec.ofNat 8 st.val, 0, kind.byte, tag, payload⟩)
    tagCount := (l.tagCount + 1) % 256
    txn := some ⟨st, kind, tag, payload, carried, .stopped, false, false⟩ }

/-- The engine sends its own poll (02 R28, R35). -/
def State.sendPoll (r : Station × Nat × Nat) (s : State) : State :=
  s.onLine fun l => { l.send r.1 .poll [] .poll with pollPos := r.2.1, cycle := r.2.2, arbCount := 0 }

/-- One more transaction that was not a poll from the poll list (02 R35). -/
def Line.countOther (l : Line) : Line := { l with arbCount := min (l.arbCount + 1) 2 }

/-- The head order leaves the queue and is sent (02 R33). -/
def State.sendOrder (o : Order) (rest : List Order) (s : State) : State :=
  let o := { o with attempts := o.attempts + 1 }
  ({ s with plant := { s.plant with queue := rest } }).onLine fun l =>
    (l.send o.station .order o.body.payload (.order o)).countOther

/-- The open records with the one of a tag changed. -/
def modifyExchange (tag : Byte) (f : Exchange → Exchange) (pool : List Exchange) : List Exchange :=
  pool.map fun x => if x.tag == tag then f x else x

/-- An exchange goes to DONE, and its result hold starts (02 R36, R41, R42). -/
def State.complete (tag : Byte) (o : ExOutcome) (reply : Option (List Byte)) (s : State) : State :=
  s.onLine fun l => { l with
    pool := modifyExchange tag (fun x => { x with
      state := .done o reply s.env.now
        (.running s.env.now (sec s.env.tables.fieldTiming.resultHold)) }) l.pool }

/-- An exchange is sent (02 R41). -/
def State.sendExchange (x : Exchange) (s : State) : State :=
  let payload := s.plant.clampPayload s.env x.target x.kind x.payload
  s.onLine fun l =>
    let l := { l with pool := modifyExchange x.tag (fun x => { x with payload := payload, state := .sent }) l.pool }
    (l.send x.target x.kind payload (.exchange x.tag)).countOther

/-- The oldest QUEUED exchange. -/
def Line.oldestQueued (l : Line) : Option Exchange := l.pool.find? fun x => x.state == .queued

/-- The arbiter takes its steps; an exchange that the guard refuses completes as BLOCKED and the steps
are taken again (02 R35, R41). The pool bounds the number of such rounds. -/
def State.arbitrate : Nat → State → State
  | 0, s => s
  | n + 1, s =>
    match s.line.arbCount == 2, s.nextPoll with
    | true, some r => s.sendPoll r
    | _, due =>
      match s.plant.queue with
      | o :: rest => s.sendOrder o rest
      | [] =>
        match s.line.oldestQueued with
        | some x =>
          if s.env.guardPasses x.target x.kind then s.sendExchange x
          else (s.complete x.tag .blocked none).arbitrate n
        | none =>
          match due with
          | some r => s.sendPoll r
          | none => s

/-- BUS_ARBITER_CHOICE: once the line has been silent, with no transaction in progress, the arbiter
chooses (02 R35). -/
def execBusArbiterChoice (s : State) : Host.Outcome State Fault Refusal :=
  .next <|
    if s.line.txn.isNone then
      ((s.bringTo (s.line.quietFrom + silenceMs s.line.rate)).arbitrate (s.line.pool.length + 1))
    else s

/-! ### Ends of a transaction -/

/-- A transaction ends; a newly written rate takes effect (01 R1, R13). -/
def State.endTxn (s : State) : State :=
  s.onLine fun l => { l with txn := none, rate := s.env.tables.fieldTiming.rate }

/-- A transaction's exchange, if it carried one, completes. -/
def State.completeCarried (x : Txn) (o : ExOutcome) (reply : Option (List Byte)) (s : State) : State :=
  match x.carried with
  | .exchange tag => s.complete tag o reply
  | _ => s

/-- Whether a miss just counted makes the station LOST (02 R24). -/
def Plant.nowLost (e : Env) (st : Station) (p : Plant) : Bool :=
  p.links[st].status == .lost || decide (e.tables.fieldTiming.missLimit ≤ p.links[st].misses)

/-- What a transaction that ends with no reply does to the link record and to an order (02 R24, R33). -/
def Plant.unanswered (e : Env) (x : Txn) (p : Plant) : Plant :=
  let p := p.miss e x.station
  match x.carried with
  | .order o => p.retryOrder e o (p.nowLost e x.station) x.noRetry
  | _ => p

/-- An order whose station's map entry changed while it was on the line: no report reaches the unit (02
R22; log entry 21). -/
def Plant.vanish (x : Txn) (p : Plant) : Plant :=
  match x.carried with
  | .order o => p.postIf o.isReset [.resetEnded]
  | _ => p

/-- A transaction ends with no reply (01 R13, 02 R24, R33, R41). -/
def State.noReply (x : Txn) (s : State) : State :=
  let s := s.onPlant fun e p => if x.voided then p.vanish x else p.unanswered e x
  (s.completeCarried x .noAnswer none).endTxn

/-- FRAME_SEND_END: the last character of the frame has been sent: the reply window starts, and a frame
to station 31 ends its transaction (01 R5, R13, 02 R41). -/
def execFrameSendEnd (t : Nat) (s : State) : Host.Outcome State Fault Refusal :=
  .next <|
    match s.line.txn with
    | some x =>
      if x.window.isRunning then s
      else
        let s := (s.bringTo t).onLine fun l => { l with quietFrom := max l.quietFrom t }
        if x.station.val = 31 then ((s.completeCarried x .answered none).endTxn).finish
        else s.onLine fun l => { l with
          txn := some { x with window := .running s.env.now s.env.tables.fieldTiming.replyWindow } }
    | none => s

/-- REPLY_WINDOW_EXPIRY (01 R13). -/
def execReplyWindowExpiry (s : State) : Host.Outcome State Fault Refusal :=
  .next <|
    match s.line.txn with
    | some x =>
      match x.window with
      | .running start length => ((s.bringTo (start + length)).noReply x).finish
      | .stopped => s
    | none => s

/-! ### Replies -/

/-- Whether a received frame's first character arrived while the reply window ran; at the millisecond of
the expiry it still did (01 R13; log entry 38). -/
def Txn.inWindow (x : Txn) (f : RxFrame) : Bool :=
  match x.window with
  | .running start length => decide (start ≤ f.begins) && decide (f.begins ≤ start + length)
  | .stopped => false

/-- Whether a Kind answers the Kind sent (01 R13). -/
def BusKind.answeredBy : BusKind → Byte → Bool
  | .poll, k => k == kindReport
  | .order, k => k == kindConfirm || k == kindDecline

/-- The qualifying reply that a received frame is to a transaction (01 R13). -/
def Txn.qualifying (x : Txn) (f : RxFrame) : Option Frame :=
  match parseFrame f with
  | some fr =>
    if x.inWindow f && fr.dest == 0 && fr.source == BitVec.ofNat 8 x.station.val && fr.tag == x.tag &&
        x.kind.answeredBy fr.kind then some fr
    else none
  | none => none

/-- The transaction in progress and the qualifying reply of a Kind that a received frame is to it. -/
def State.replyOf (kind : Byte) (f : RxFrame) (s : State) : Option (Txn × Frame) :=
  match s.line.txn with
  | some x =>
    match x.qualifying f with
    | some fr => if fr.kind = kind then some (x, fr) else none
    | none => none
  | none => none

/-- A frame's characters arrive on the plant bus (01 R2). -/
def Line.hear (f : RxFrame) (l : Line) : Line :=
  { l with rxBuffer := stored f.bytes, quietFrom := max l.quietFrom f.ends }

/-- The hand-on of a report that fits its station's role; none when it does not fit. A FOREIGN or UNUSED
station's report fits and reaches no unit (01 R10, 02 R24, R29). -/
def reportSignals (x : StationEntry) (payload : List Byte) (t : Nat) : Option (List Signal) :=
  match x.role with
  | .unused | .foreign => some []
  | .rectifier => (readRectReport payload).map fun r =>
      if h : x.unit < 12 then [.rectReport ⟨x.unit, h⟩ r] else []
  | .stringMonitor => (readStringReport payload).map fun r =>
      if h : x.unit < 4 then [.stringReport ⟨x.unit, h⟩ r t] else []
  | .genset => (readGensetReport payload).map fun r => [.gensetReport r t]

/-- A report is copied to the station's mirror slot when its mirror setting is yes (02 R29, R30). -/
def State.mirrorReport (st : Station) (payload : List Byte) (s : State) : State :=
  if (s.env.entry st).mirror then
    s.onLine fun l => { l with mirrors := put l.mirrors st (some ⟨payload, s.env.now⟩) }
  else s

/-- A REPORT that ends its transaction is taken (01 R10, 02 R22, R29, R41). -/
def State.takeReport (x : Txn) (payload : List Byte) (s : State) : State :=
  match reportSignals (s.env.entry x.station) payload s.env.now with
  | none => s.noReply x
  | some signals =>
    let s :=
      if x.voided then s
      else
        (s.onPlant fun e p => (p.post signals).goodReply e x.station e.now).mirrorReport x.station payload
    (s.completeCarried x .answered (some payload)).endTxn

/-- Whether the reply window expired during a frame that began while it ran (01 R13; log entry 38). -/
def Txn.expiredDuring (x : Txn) (f : RxFrame) : Bool :=
  match x.window with
  | .running start length => x.inWindow f && decide (start + length ≤ f.ends)
  | .stopped => false

/-- A frame that is no qualifying reply is discarded; when the window expired during it, the transaction
ends with no reply (01 R13). While the part sends it hears nothing (01 R1). -/
def State.discardBusFrame (f : RxFrame) (s : State) : State :=
  match s.line.txn with
  | none => (s.bringTo f.ends).onLine fun l => l.hear f
  | some x =>
    if !x.window.isRunning || (x.qualifying f).isSome then s
    else
      let s := (s.bringTo f.ends).onLine fun l => l.hear f
      if x.expiredDuring f then (s.noReply x).finish else s

/-- A frame of a Kind that is a qualifying reply is taken; any other frame is discarded (01 R13). -/
def State.reply (kind : Byte) (take : Txn → Frame → State → State) (f : RxFrame) (s : State) : State :=
  match s.replyOf kind f with
  | some (x, fr) => (take x fr ((s.bringTo f.ends).onLine fun l => l.hear f)).finish
  | none => s.discardBusFrame f

/-- REPORT_RECEIVED (02 R29). -/
def execReportReceived (f : RxFrame) (s : State) : Host.Outcome State Fault Refusal :=
  .next (s.reply kindReport (fun x fr => State.takeReport x fr.payload) f)

/-- What a CONFIRM hands to units: an order's composing unit is told, and a relayed SET_STATE to a
rectifier is snooped (02 R33, R40). -/
def Plant.confirmed (e : Env) (x : Txn) (p : Plant) : Plant :=
  match x.carried with
  | .order o => p.post [.orderConfirmed o]
  | .exchange _ =>
    match e.rectOf x.station, readSetState x.payload with
    | some u, some a => p.post [.snooped u a]
    | _, _ => p
  | .poll => p

/-- What a DECLINE hands to units (02 R33, R40). -/
def Plant.declined (x : Txn) (reply : List Byte) (p : Plant) : Plant :=
  match x.carried with
  | .order o => p.post [.orderDeclined o (beVal (reply.drop 1))]
  | _ => p

/-- A CONFIRM or DECLINE that ends its transaction is taken (01 R12, 02 R22, R24, R33, R40, R41). -/
def State.takeOrderReply (x : Txn) (fr : Frame) (s : State) : State :=
  if replyFits fr.kind fr.payload x.payload then
    let confirm := fr.kind == kindConfirm
    let s := s.onPlant fun e p =>
      if x.voided then p.vanish x
      else
        let p := p.goodReply e x.station e.now
        if confirm then p.confirmed e x else p.declined x fr.payload
    (s.completeCarried x (if confirm then .answered else .declined) (some fr.payload)).endTxn
  else s.noReply x

/-- CONFIRM_RECEIVED (02 R33). -/
def execConfirmReceived (f : RxFrame) (s : State) : Host.Outcome State Fault Refusal :=
  .next (s.reply kindConfirm State.takeOrderReply f)

/-- DECLINE_RECEIVED (02 R33). -/
def execDeclineReceived (f : RxFrame) (s : State) : Host.Outcome State Fault Refusal :=
  .next (s.reply kindDecline State.takeOrderReply f)

/-- DISCARD_BUS_FRAME (01 R13). -/
def execDiscardBusFrame (f : RxFrame) (s : State) : Host.Outcome State Fault Refusal :=
  .next (s.discardBusFrame f)

/-! ### The exchange pool's requests -/

/-- The inner kind that a byte names (02 R37). -/
def innerKind (b : Byte) : Option BusKind :=
  if b = kindPoll then some .poll else if b = kindOrder then some .order else none

/-- RELAY carried out (02 R37). -/
def State.relay (tag : Byte) (params : List Byte) (s : State) : Done :=
  match params with
  | target :: kind :: inner =>
    if 56 < inner.length then s.refuse .badEntry []
    else if 8 ≤ s.line.pool.length then s.refuse .full []
    else if s.line.pool.any fun x => x.tag == tag then s.refuse .badEntry []
    else
      match innerKind kind with
      | none => s.refuse .badEntry []
      | some k =>
        if h : 1 ≤ target.toNat ∧ target.toNat ≤ 31 ∧ ¬ (target.toNat = 31 ∧ k = .poll) then
          let st : Station := ⟨target.toNat, by omega⟩
          if s.env.guardPasses st k then
            ⟨s.onLine fun l => { l with pool := l.pool ++ [⟨tag, st, k, inner, .queued⟩] }, .ok, []⟩
          else s.refuse .guarded []
        else s.refuse .badEntry []
  | _ => s.refuse .badEntry []

/-- RELAY. -/
def execRelay (q : Req) (s : State) : Host.Outcome State Fault Refusal :=
  .next (s.requestOf 0x08 q (State.relay q.tag))

/-- The content of a RESULT answer (02 R42). -/
def resultContent (o : ExOutcome) (reply : Option (List Byte)) : List Byte :=
  let r := reply.getD []
  recU 1 o.toNat ++ recU 1 r.length ++ r.take 60

/-- RESULT carried out (02 R42). -/
def State.result (params : List Byte) (s : State) : Done :=
  match params with
  | [tag] =>
    match s.line.pool.find? fun x => x.tag == tag with
    | none => s.refuse .noResult []
    | some x =>
      match x.state with
      | .queued | .sent => s.refuse .pending []
      | .done o reply _ _ =>
        ⟨s.onLine fun l => { l with pool := l.pool.filter fun x => x.tag != tag }, .ok,
          resultContent o reply⟩
  | _ => s.refuse .badEntry []

/-- RESULT. -/
def execResult (q : Req) (s : State) : Host.Outcome State Fault Refusal :=
  .next (s.requestOf 0x09 q State.result)

/-- RESULT_HOLD_EXPIRY: a DONE record not collected is freed (02 R42). -/
def execResultHoldExpiry (tag : Byte) (s : State) : Host.Outcome State Fault Refusal :=
  .next <|
    match s.line.pool.find? fun x => x.tag == tag with
    | some x =>
      match x.state with
      | .done _ _ _ (.running start length) =>
        (s.bringTo (start + length)).onLine fun l => { l with pool := l.pool.filter fun x => x.tag != tag }
      | _ => s
    | none => s

end Sys2Proof.Machine
end

