-- ==== Sys2Proof/Machine/Expiries.lean ====
section
/-! DEFINITION. The rows of the plant clock: timer expiries, counts that reach their limit, elapsed
seconds and minutes, and the contact samples (log entry 1). -/

namespace Sys2Proof.Machine

/-! ### Timers of the blocks -/

/-- TEMP_HOLD_EXPIRY (04 R78). -/
def execTempHoldExpiry (s : State) : Host.Outcome State Fault Refusal := .next (s.expire .tempHold)

/-- EVALUATION_EXPIRY (05 R108). -/
def execEvaluationExpiry (s : State) : Host.Outcome State Fault Refusal := .next (s.expire .evaluation)

/-- START_UP_HOLD_EXPIRY (05 R95). -/
def execStartUpHoldExpiry (s : State) : Host.Outcome State Fault Refusal := .next (s.expire .startHold)

/-- DISCHARGE_DEBOUNCE_EXPIRY (05 R96, R104). -/
def execDischargeDebounceExpiry (s : State) : Host.Outcome State Fault Refusal := .next (s.expire .dischargeDebounce)

/-- RECOVERY_DEBOUNCE_EXPIRY (05 R97). -/
def execRecoveryDebounceExpiry (s : State) : Host.Outcome State Fault Refusal := .next (s.expire .recoveryDebounce)

/-- BOOST_TIMER_EXPIRY (05 R101). -/
def execBoostTimerExpiry (s : State) : Host.Outcome State Fault Refusal := .next (s.expire .boost)

/-- TAPER_HOLD_EXPIRY (05 R100). -/
def execTaperHoldExpiry (s : State) : Host.Outcome State Fault Refusal := .next (s.expire .taper)

/-- EQUALIZE_DURATION_EXPIRY (05 R104). -/
def execEqualizeDurationExpiry (s : State) : Host.Outcome State Fault Refusal := .next (s.expire .equalizeDuration)

/-- TEST_DURATION_EXPIRY (06 R121). -/
def execTestDurationExpiry (s : State) : Host.Outcome State Fault Refusal := .next (s.expire .testDuration)

/-- DISCONNECT_DELAY_EXPIRY (06 R127). -/
def execDisconnectDelayExpiry (s : State) : Host.Outcome State Fault Refusal := .next (s.expire .disconnect)

/-- RECONNECT_DELAY_EXPIRY (06 R128). -/
def execReconnectDelayExpiry (s : State) : Host.Outcome State Fault Refusal := .next (s.expire .reconnect)

/-- MISMATCH_TIMER_EXPIRY (06 R130). -/
def execMismatchTimerExpiry (s : State) : Host.Outcome State Fault Refusal := .next (s.expire .mismatch)

/-- SIZING_TIMER_EXPIRY (07 R142). -/
def execSizingTimerExpiry (s : State) : Host.Outcome State Fault Refusal := .next (s.expire .sizing)

/-- SHED_TIMER_EXPIRY (07 R143). -/
def execShedTimerExpiry (s : State) : Host.Outcome State Fault Refusal := .next (s.expire .shed)

/-- STAGGER_EXPIRY (07 R145). -/
def execStaggerExpiry (s : State) : Host.Outcome State Fault Refusal := .next (s.expire .stagger)

/-- REFRESH_EXPIRY (07 R152). -/
def execRefreshExpiry (s : State) : Host.Outcome State Fault Refusal := .next (s.expire .refresh)

/-- LOW_VOLTAGE_TIMER_EXPIRY (08 R161). -/
def execLowVoltageTimerExpiry (s : State) : Host.Outcome State Fault Refusal := .next (s.expire .lowVoltage)

/-- DISCHARGE_TIME_EXPIRY (08 R161). -/
def execDischargeTimeExpiry (s : State) : Host.Outcome State Fault Refusal := .next (s.expire .dischargeTime)

/-- CRANK_EXPIRY (08 R165, R166). -/
def execCrankExpiry (s : State) : Host.Outcome State Fault Refusal := .next (s.expire .crank)

/-- REST_EXPIRY (08 R167). -/
def execRestExpiry (s : State) : Host.Outcome State Fault Refusal := .next (s.expire .rest)

/-- WARMUP_EXPIRY (08 R167). -/
def execWarmupExpiry (s : State) : Host.Outcome State Fault Refusal := .next (s.expire .warmup)

/-- WARMUP_SECOND_EXPIRY (08 R167). -/
def execWarmupSecondExpiry (s : State) : Host.Outcome State Fault Refusal := .next (s.expire .warmupSecond)

/-- COOLDOWN_EXPIRY (08 R168). -/
def execCooldownExpiry (s : State) : Host.Outcome State Fault Refusal := .next (s.expire .cooldown)

/-- STOP_CONFIRM_EXPIRY (08 R169). -/
def execStopConfirmExpiry (s : State) : Host.Outcome State Fault Refusal := .next (s.expire .stopConfirm)

/-- RETRY_EXPIRY (08 R170). -/
def execRetryExpiry (s : State) : Host.Outcome State Fault Refusal := .next (s.expire .retry)

/-- FOLLOW_TIMER_EXPIRY (07 R139). -/
def execFollowTimerExpiry (u : RectIx) (s : State) : Host.Outcome State Fault Refusal :=
  .next (s.expire (.follow u))

/-- RECOVERY_TIMER_EXPIRY (07 R140). -/
def execRecoveryTimerExpiry (u : RectIx) (s : State) : Host.Outcome State Fault Refusal :=
  .next (s.expire (.recovery u))

/-- The delay timer of a point in a state expires (10 R187). -/
def State.delayEnds (p : PointIx) (state : PointState) (s : State) : State :=
  if s.plant.alarms.points[p].state == state then s.expire (.delay p) else s

/-- RAISE_DELAY_EXPIRY (10 R187). -/
def execRaiseDelayExpiry (p : PointIx) (s : State) : Host.Outcome State Fault Refusal :=
  .next (s.delayEnds p .raising)

/-- CLEAR_DELAY_EXPIRY (10 R187). -/
def execClearDelayExpiry (p : PointIx) (s : State) : Host.Outcome State Fault Refusal :=
  .next (s.delayEnds p .clearing)

/-! ### Counts -/

/-- EQUALIZE_INTERVAL_EXPIRY (05 R93, R102). -/
def execEqualizeIntervalExpiry (s : State) : Host.Outcome State Fault Refusal :=
  .next (s.countEnds (s.plant.equalizeCounts s.env) s.plant.charge.equalizeCount
    (hours s.env.tables.plant.equalizeInterval) fun _ p => p.equalizeIntervalExpired)

/-- TEST_INTERVAL_EXPIRY (06 R115, R118). -/
def execTestIntervalExpiry (s : State) : Host.Outcome State Fault Refusal :=
  .next (s.countEnds (s.plant.testCounts s.env) s.plant.test.count
    (hours s.env.tables.plant.testInterval) fun _ p => p.testIntervalExpired)

/-- ROTATION_COUNT_EXPIRY (07 R147). -/
def execRotationCountExpiry (s : State) : Host.Outcome State Fault Refusal :=
  .next (s.countEnds (s.plant.rotationCounts s.env) s.plant.rect.rotationCount
    (hours s.env.tables.rectifier.rotationInterval) fun _ p => p.rotationExpired)

/-- EXERCISE_COUNT_EXPIRY (08 R163). -/
def execExerciseCountExpiry (s : State) : Host.Outcome State Fault Refusal :=
  .next (s.countEnds (s.plant.exerciseCounts s.env) s.plant.gen.exerciseCount
    (hours s.env.tables.genset.exerciseInterval) fun _ p => p.exerciseExpired)

/-- The run time of the present run reaches a limit: the clock is brought forward to it, and the run
unit acts. A run time that does not run reaches none (08 R163, R168; log entry 1). -/
def State.runReaches (limit : Nat) (act : Plant → Plant) (s : State) : State :=
  match s.plant.gen.runStart with
  | some t => ((s.bringTo (t + limit)).onPlant fun _ p => act p).finish
  | none => s

/-- EXERCISE_DURATION_REACHED (08 R163). -/
def execExerciseDurationReached (s : State) : Host.Outcome State Fault Refusal :=
  .next (s.runReaches (sec s.env.tables.genset.exerciseDuration) Plant.exerciseReached)

/-- MINIMUM_RUN_MET (08 R168). -/
def execMinimumRunMet (s : State) : Host.Outcome State Fault Refusal :=
  .next (s.runReaches (sec s.env.tables.genset.minimumRun) fun p => p.post [.actOnReasons])

/-- A full minute of a record's running (07 R154). -/
def RectRec.minute (x : RectRec) : RectRec :=
  if x.carry < 60000 then x
  else { x with carry := x.carry - 60000, minutes := min (x.minutes + 1) 4294967295 }

/-- RUN_MINUTE: the elapsed running time of a rectifier reaches a full minute (07 R154). -/
def execRunMinute (u : RectIx) (s : State) : Host.Outcome State Fault Refusal :=
  .next <|
    let x := s.plant.rect.records[u]
    let s := if x.runs then s.advance (60000 - x.carry) else s
    s.onPlant fun _ p => p.modifyRect u RectRec.minute

/-! ### Site time, silence, contacts -/

/-- SITE_TIME_ADVANCE: one second of the plant clock has passed (03 R64). -/
def execSiteTimeAdvance (s : State) : Host.Outcome State Fault Refusal :=
  .next <|
    let next := s.env.clock.secondStart + 1000
    let s := s.bringTo next
    { s with env := { s.env with clock := { s.env.clock with
        site := (s.env.clock.site + 1) % 4294967296, secondStart := next } } }

/-- The silence timer's expiry taken: SUPERVISOR_SILENT holds, and MANUAL becomes AUTO (03 R60). -/
def State.silenceExpired (s : State) : State :=
  let s := s.onRequest fun r => { r with silence := .stopped, silent := true }
  let s := s.post [.cond 25 true]
  if s.env.mode == .manual then s.toAuto else s

/-- SILENCE_TIMER_EXPIRY (03 R60). -/
def execSilenceTimerExpiry (s : State) : Host.Outcome State Fault Refusal :=
  .next <|
    match s.request.silence with
    | .running start length => (s.bringTo (start + length)).silenceExpired.finish
    | .stopped => s

/-- A contact sample taken (09 R179, R181). -/
def State.takeSample (i : InputIx) (closed : Bool) (s : State) : State :=
  let x := s.env.tables.inputs[i]
  let old := s.env.inputs[i]
  let new := old.sample s.env.now s.env.stamp x (x.level closed)
  ({ s with env := { s.env with inputs := put s.env.inputs i new } }).post
    (if new.accepted = old.accepted then [] else acceptedSignals x i new.accepted)

/-- INPUT_SAMPLE: the contact of an input is sampled when its interval ends (09 R179; log entry 29). -/
def execInputSample (i : InputIx) (closed : Bool) (s : State) : Host.Outcome State Fault Refusal :=
  .next ((s.bringTo s.env.inputs[i].nextSample).takeSample i closed).finish

end Sys2Proof.Machine
end

