-- ==== Sys2Proof/Machine/Resets.lean ====
section
/-! DEFINITION. The four resets (01 R19; 02 R44; 03 R56, R61 to R63; 04 R84, R85; 05 R114; 06 R125, R131;
07 R156; 08 R177; 09 R180, R184; 10 R197). -/

namespace Sys2Proof.Machine

/-- Whether a cause gives a cold reset (03, 3.8). -/
def Cause.cold : Cause → Bool
  | .powerOn | .supplyLow => true
  | .resetPin | .restart => false

/-- The reset-cause set after a reset (03 R61). -/
def CauseSet.after (c : CauseSet) : Cause → CauseSet
  | .powerOn => ⟨true, false, false, false⟩
  | .supplyLow => { c with supplyLow := true }
  | .resetPin => { c with resetPin := true }
  | .restart => { c with restart := true }

/-- The tables that the image holds at a reset; a save in progress leaves the image invalid (03 R55, R56). -/
def Store.load (x : Store) : Option Tables := if x.state == .saving then none else loadImage x.image

/-- The store after a reset (03 R54, R56). -/
def Store.afterReset (x : Store) : Store :=
  { state := if x.load.isSome then .valid else .invalid
    image := if x.state == .saving then [] else x.image }

/-- The working tables after a reset (03 R56). -/
def Store.tables (x : Store) (cold : Bool) (working : Tables) : Tables :=
  if cold then x.load.getD .default else working

/-- Tables-unsaved after a reset (03 R56). -/
def Store.unsaved (x : Store) (cold unsaved : Bool) : Bool :=
  if x.load.isSome then (if cold then false else unsaved) else true

/-- The clock after a reset (03 R63, R64; log entry 3). -/
def Clock.afterReset (cold : Bool) (c : Clock) : Clock :=
  if cold then ⟨c.now, 0, false, c.now⟩ else c

/-- What every block reads, after a reset: every input's filter restarted, AUTO (03 R58, 09 R180). -/
def Env.afterReset (cold : Bool) (t : Tables) (e : Env) : Env :=
  { tables := t
    clock := e.clock.afterReset cold
    mode := .auto
    inputs := .ofFn fun i =>
      ({ e.inputs[i] with streakLevel := false, lastChange := none }).restart e.clock.now t.inputs[i] }

/-- The supervisory port after a reset, its silence counted from the reset (01 R1, R14, R15, R19; log entry
34). -/
def Port.start (e : Env) : Port :=
  ⟨.silenceWait, false, [], e.tables.supervision.rate, none, none, e.now⟩

/-- The request unit after a reset; the reset of an answered RESTART still follows one of the reset pin (03
R62, R63; log entry 31). -/
def RequestUnit.afterReset (cause : Cause) (e : Env) (unsaved : Bool) (r : RequestUnit) : RequestUnit :=
  { cursor := ⟨.stationMap, 0⟩
    lock := if cause.cold then false else r.lock
    silence := silenceTimer e.now e.tables.supervision.silenceTimeout
    silent := false
    causes := r.causes.after cause
    unsaved := unsaved
    restartDue := r.restartDue && cause == .resetPin }

/-- The engine's line side after a reset, its silence counted from the reset (01 R1, R13, R19, 02 R44; log
entry 34). -/
def Line.start (e : Env) : Line where
  rate := e.tables.fieldTiming.rate
  rxBuffer := []
  sent := none
  tagCount := 0
  txn := none
  pollPos := 0
  cycle := 0
  arbCount := 0
  pool := []
  mirrors := .replicate 32 none
  quietFrom := e.now

/-- The link records started anew: a station that is none has none (02 R24, R44). -/
def startLinks (e : Env) : Vector Link 32 :=
  .ofFn fun st => .fresh (if fieldStations.contains st then e.role st else .unused)

/-- A unit record's status after a reset (02 R44). -/
def startStatus (named : Option Station) : UnitStatus :=
  if named.isSome then .discovering else .absent

/-- A string's status after a reset (04 R84, R85). -/
def Env.stringStart (e : Env) (i : StringIx) : UnitStatus :=
  if e.fitted i then startStatus (e.unitStation .stringMonitor i.val) else .absent

/-- A string record after a cold reset (04 R84). -/
def StringRec.cold (e : Env) (i : StringIx) : StringRec :=
  let d : Int := (e.capacity i * e.tables.plant.startUpShortfall / 100 : Nat)
  { status := e.stringStart i
    voltage := 0, current := 0, temperature := 0, tempValid := false, blocks := [], spread := 0
    imbalance := false, shortfall := d, residue := 0, estimated := true, soc := e.soc i d
    tPrev := none }

/-- The plant quantities after a cold reset (04 R74, R78, R84). -/
def Battery.cold (e : Env) : Battery where
  weakestSoc := 100 - e.tables.plant.startUpShortfall
  weakestIndex := none
  iBat := 0
  iChg := 0
  busVoltage := none
  tComp := 300
  tSource := .holding
  hold := .running e.now (sec 600)

/-- The plant quantities after a warm reset (04 R74, R78, R85). -/
def Battery.warm (now : Nat) (b : Battery) : Battery :=
  { b with
    weakestIndex := none, iBat := 0, iChg := 0, busVoltage := none
    tSource := if b.tSource == .fallback then .fallback else .holding
    hold := if b.tSource == .fallback then .stopped else .running now (sec 600) }

/-- The charge controller after a reset, less the setpoint (05 R114; log entry 12). -/
def Charge.start (e : Env) (cold : Bool) (c : Charge) : Charge :=
  { c with
    state := .startUp, stateSince := e.now, mains := false, source := .none
    overTemp := false, highTemp := false
    equalizePending := !cold && c.equalizePending
    boostInhibit := !cold && c.boostInhibit
    boostTimeout := !cold && c.boostTimeout
    evaluation := .running e.now (sec e.tables.plant.evaluation)
    startHold := .running e.now (sec e.tables.plant.startUpHold)
    dischargeDebounce := .stopped, recoveryDebounce := .stopped, boost := .stopped
    taper := .stopped, equalizeDuration := .stopped
    equalizeCount := if cold then 0 else c.equalizeCount
    trim := 0, iLim := 0, taperCurrent := 0, stateChanged := false }

/-- The empty test record (06 R115, R124, R125). -/
def Test.empty : Test :=
  ⟨.none, .none, ⟨0, false⟩, 0, 0, 0, none, 0, 0, .stopped, 0, false, false⟩

/-- The battery test after a warm reset (06 R115, R123, R125). -/
def Test.warm (now : Nat) (t : Test) : Test :=
  let t := if t.runs then t.finish now .abortedCommand else t
  { t with duration := .stopped }

/-- Load disconnect after a reset (06 R131). -/
def LoadDisconnect.start : LoadDisconnect := ⟨.connected, .stopped, .stopped, .stopped, false⟩

/-- A rectifier record after a reset (07 R156). -/
def RectRec.start (cold named : Bool) (x : RectRec) : RectRec :=
  let status := if named then RectStatus.discovering else .absent
  if cold then ⟨status, none, none, none, none, .none, [], .stopped, .stopped, 0, 0⟩
  else { x with
    status := status, commanded := none, composed := none, follow := .stopped, recovery := .stopped }

/-- The rectifier duty unit after a reset (07 R156). -/
def RectUnit.start (e : Env) (cold : Bool) (r : RectUnit) : RectUnit where
  records := .ofFn fun u => (r.records[u]).start cold (e.rectStation u).isSome
  duty := []
  out := []
  walkIn := []
  target := 0
  sizing := .stopped
  shed := .stopped
  shedDue := false
  stagger := .stopped
  staggerMains := false
  refresh := .stopped
  rotationCount := if cold then 0 else r.rotationCount
  rotationPending := !cold && r.rotationPending
  inFlight := none
  shortCapacity := false

/-- The generator run unit after a reset (08 R160, R177; log entry 12). -/
def GenUnit.start (e : Env) (cold : Bool) (g : GenUnit) : GenUnit :=
  let report := if cold then none else g.report
  { status := startStatus e.gensetStation
    report := report
    decline := if cold then none else g.decline
    reasons := ⟨false, false, false, false, false⟩
    lowVoltage := .stopped, dischargeTime := .stopped
    exerciseCount := if cold then 0 else g.exerciseCount
    exerciseDue := !cold && (g.exerciseDue || g.reasons.exercise)
    run := if e.tables.genset.fitted then .off else .disabled
    since := e.now, attempts := 0, cycleLimit := 0
    crank := .stopped, rest := .stopped, warmup := .stopped, warmupSecond := .stopped
    cooldown := .stopped, stopConfirm := .stopped, retry := .stopped
    runStart := none, runTime := 0, loaded := false
    startFailed := !cold && g.startFailed
    engineFailure := !cold && g.engineFailure
    failedSinceRun := !cold && g.failedSinceRun
    lastCause := if cold then .none else g.lastCause
    retryDue := false, resetOutstanding := false, mainsMark := false, dropped := none
    fuelLow := fuelAt e.tables.genset.fuelLow report
    fuelCritical := fuelAt e.tables.genset.fuelCritical report
    allowance := none }

/-- The alarm unit after a reset, with the RESTART entry written (10 R193, R195, R197). -/
def Alarms.start (e : Env) (cause : Cause) (a : Alarms) : Alarms :=
  let a : Alarms :=
    { points := .replicate 40 .idle
      notices := []
      overflow := false
      history := if cause.cold then [] else a.history
      nextSeq := if cause.cold then 1 else a.nextSeq
      capture := if cause.cold then none else a.capture }
  a.record e.stamp none (.restart cause)

/-- The plant after a reset, before any condition is handed: `e` is what the blocks read after it. -/
def Plant.afterReset (e : Env) (cause : Cause) (p : Plant) : Plant :=
  let cold := cause.cold
  ({ links := startLinks e
     queue := []
     strings := if cold then .ofFn (StringRec.cold e)
       else .ofFn fun i => { p.strings[i] with status := e.stringStart i }
     battery := if cold then .cold e else p.battery.warm e.now
     charge := p.charge.start e cold
     test := if cold then .empty else p.test.warm e.now
     ld := .start
     rect := p.rect.start e cold
     gen := p.gen.start e cold
     alarms := p.alarms.start e cause
     outputs := ⟨.replicate 4 false, false, false⟩
     agenda := [] } : Plant).storeSetpoint e

/-- The owners hand their conditions after a reset, in the order of the chapters (10 R197; log entry 6). -/
def startConditions (invalid unsaved : Bool) : List Signal :=
  [.fieldBus, .cond 25 false, .cond 26 invalid, .cond 27 unsaved, .cond 28 false, .stringConds,
    .chargeConds, .testConds, .rectConds, .genConds, .busConds]

/-- A reset of a cause (03 R62). -/
def State.resetBy (cause : Cause) (s : State) : State :=
  let cold := cause.cold
  let e := s.env.afterReset cold (s.store.tables cold s.env.tables)
  let unsaved := s.store.unsaved cold s.request.unsaved
  let store := s.store.afterReset
  let s : State :=
    { pending := s.pending
      port := .start e
      request := s.request.afterReset cause e unsaved
      store := store
      env := e
      line := .start e
      plant := s.plant.afterReset e cause }
  (s.post (startConditions (store.state == .invalid) unsaved)).finish

/-- POWER_ON (03 R61). -/
def execPowerOn (t : Nat) (s : State) : Host.Outcome State Fault Refusal :=
  .next ((s.bringTo t).resetBy .powerOn)

/-- SUPPLY_LOW (03 R61). -/
def execSupplyLow (t : Nat) (s : State) : Host.Outcome State Fault Refusal :=
  .next ((s.bringTo t).resetBy .supplyLow)

/-- RESET_PIN (03 R61). -/
def execResetPin (t : Nat) (s : State) : Host.Outcome State Fault Refusal :=
  .next ((s.bringTo t).resetBy .resetPin)

/-- RESTART_RESET: the warm reset of an answered RESTART begins (01 R17, 03 R62; log entry 31). -/
def execRestartReset (s : State) : Host.Outcome State Fault Refusal :=
  .next (if s.request.restartDue then s.resetBy .restart else s)

end Sys2Proof.Machine
end

