-- ==== Sys2Proof/Machine/Dispatch.lean ====
section
/-! DEFINITION. Every command's meaning: one arm per constructor of Instr. -/

namespace Sys2Proof.Machine

def exec (i : Instr) (s : State) : Host.Outcome State Fault Refusal :=
  match i with
  | .discardFrame f => Sys2Proof.Machine.execDiscardFrame f s
  | .silenceWaitEnd => Sys2Proof.Machine.execSilenceWaitEnd s
  | .charactersInSilenceWait t => Sys2Proof.Machine.execCharactersInSilenceWait t s
  | .intrudingFrame f => Sys2Proof.Machine.execIntrudingFrame f s
  | .answerStart => Sys2Proof.Machine.execAnswerStart s
  | .answerSent t => Sys2Proof.Machine.execAnswerSent t s
  | .unknownRequest q => Sys2Proof.Machine.execUnknownRequest q s
  | .status q => Sys2Proof.Machine.execStatus q s
  | .collect q => Sys2Proof.Machine.execCollect q s
  | .readRecordRectifier q => Sys2Proof.Machine.execReadRecordRectifier q s
  | .readRecordString q => Sys2Proof.Machine.execReadRecordString q s
  | .readRecordGenset q => Sys2Proof.Machine.execReadRecordGenset q s
  | .readRecordGenRun q => Sys2Proof.Machine.execReadRecordGenRun q s
  | .readRecordPlant q => Sys2Proof.Machine.execReadRecordPlant q s
  | .readRecordStation q => Sys2Proof.Machine.execReadRecordStation q s
  | .readRecordMirror q => Sys2Proof.Machine.execReadRecordMirror q s
  | .readRecordAlarmPoint q => Sys2Proof.Machine.execReadRecordAlarmPoint q s
  | .readRecordCapture q => Sys2Proof.Machine.execReadRecordCapture q s
  | .readRecordHistory q => Sys2Proof.Machine.execReadRecordHistory q s
  | .readRecordTestResult q => Sys2Proof.Machine.execReadRecordTestResult q s
  | .cursor q => Sys2Proof.Machine.execCursor q s
  | .writeEntries q => Sys2Proof.Machine.execWriteEntries q s
  | .readEntries q => Sys2Proof.Machine.execReadEntries q s
  | .forceBoost q => Sys2Proof.Machine.execForceBoost q s
  | .startEqualize q => Sys2Proof.Machine.execStartEqualize q s
  | .startTest q => Sys2Proof.Machine.execStartTest q s
  | .stopTest q => Sys2Proof.Machine.execStopTest q s
  | .resyncFull q => Sys2Proof.Machine.execResyncFull q s
  | .genStart q => Sys2Proof.Machine.execGenStart q s
  | .genStop q => Sys2Proof.Machine.execGenStop q s
  | .genReset q => Sys2Proof.Machine.execGenReset q s
  | .rectLockout q => Sys2Proof.Machine.execRectLockout q s
  | .rectRestore q => Sys2Proof.Machine.execRectRestore q s
  | .rotateNow q => Sys2Proof.Machine.execRotateNow q s
  | .modeManual q => Sys2Proof.Machine.execModeManual q s
  | .modeAuto q => Sys2Proof.Machine.execModeAuto q s
  | .ack q => Sys2Proof.Machine.execAck q s
  | .releaseCapture q => Sys2Proof.Machine.execReleaseCapture q s
  | .setTime q => Sys2Proof.Machine.execSetTime q s
  | .saveTables q => Sys2Proof.Machine.execSaveTables q s
  | .lockProfile q => Sys2Proof.Machine.execLockProfile q s
  | .restart q => Sys2Proof.Machine.execRestart q s
  | .relay q => Sys2Proof.Machine.execRelay q s
  | .result q => Sys2Proof.Machine.execResult q s
  | .saveComplete t damage => Sys2Proof.Machine.execSaveComplete t damage s
  | .silenceTimerExpiry => Sys2Proof.Machine.execSilenceTimerExpiry s
  | .siteTimeAdvance => Sys2Proof.Machine.execSiteTimeAdvance s
  | .powerOn t => Sys2Proof.Machine.execPowerOn t s
  | .supplyLow t => Sys2Proof.Machine.execSupplyLow t s
  | .resetPin t => Sys2Proof.Machine.execResetPin t s
  | .restartReset => Sys2Proof.Machine.execRestartReset s
  | .busArbiterChoice => Sys2Proof.Machine.execBusArbiterChoice s
  | .frameSendEnd t => Sys2Proof.Machine.execFrameSendEnd t s
  | .replyWindowExpiry => Sys2Proof.Machine.execReplyWindowExpiry s
  | .reportReceived f => Sys2Proof.Machine.execReportReceived f s
  | .confirmReceived f => Sys2Proof.Machine.execConfirmReceived f s
  | .declineReceived f => Sys2Proof.Machine.execDeclineReceived f s
  | .discardBusFrame f => Sys2Proof.Machine.execDiscardBusFrame f s
  | .resultHoldExpiry tag => Sys2Proof.Machine.execResultHoldExpiry tag s
  | .tempHoldExpiry => Sys2Proof.Machine.execTempHoldExpiry s
  | .evaluationExpiry => Sys2Proof.Machine.execEvaluationExpiry s
  | .startUpHoldExpiry => Sys2Proof.Machine.execStartUpHoldExpiry s
  | .dischargeDebounceExpiry => Sys2Proof.Machine.execDischargeDebounceExpiry s
  | .recoveryDebounceExpiry => Sys2Proof.Machine.execRecoveryDebounceExpiry s
  | .boostTimerExpiry => Sys2Proof.Machine.execBoostTimerExpiry s
  | .taperHoldExpiry => Sys2Proof.Machine.execTaperHoldExpiry s
  | .equalizeIntervalExpiry => Sys2Proof.Machine.execEqualizeIntervalExpiry s
  | .equalizeDurationExpiry => Sys2Proof.Machine.execEqualizeDurationExpiry s
  | .testIntervalExpiry => Sys2Proof.Machine.execTestIntervalExpiry s
  | .testDurationExpiry => Sys2Proof.Machine.execTestDurationExpiry s
  | .disconnectDelayExpiry => Sys2Proof.Machine.execDisconnectDelayExpiry s
  | .reconnectDelayExpiry => Sys2Proof.Machine.execReconnectDelayExpiry s
  | .mismatchTimerExpiry => Sys2Proof.Machine.execMismatchTimerExpiry s
  | .sizingTimerExpiry => Sys2Proof.Machine.execSizingTimerExpiry s
  | .shedTimerExpiry => Sys2Proof.Machine.execShedTimerExpiry s
  | .staggerExpiry => Sys2Proof.Machine.execStaggerExpiry s
  | .followTimerExpiry u => Sys2Proof.Machine.execFollowTimerExpiry u s
  | .recoveryTimerExpiry u => Sys2Proof.Machine.execRecoveryTimerExpiry u s
  | .rotationCountExpiry => Sys2Proof.Machine.execRotationCountExpiry s
  | .refreshExpiry => Sys2Proof.Machine.execRefreshExpiry s
  | .runMinute u => Sys2Proof.Machine.execRunMinute u s
  | .lowVoltageTimerExpiry => Sys2Proof.Machine.execLowVoltageTimerExpiry s
  | .dischargeTimeExpiry => Sys2Proof.Machine.execDischargeTimeExpiry s
  | .exerciseCountExpiry => Sys2Proof.Machine.execExerciseCountExpiry s
  | .exerciseDurationReached => Sys2Proof.Machine.execExerciseDurationReached s
  | .minimumRunMet => Sys2Proof.Machine.execMinimumRunMet s
  | .crankExpiry => Sys2Proof.Machine.execCrankExpiry s
  | .restExpiry => Sys2Proof.Machine.execRestExpiry s
  | .warmupExpiry => Sys2Proof.Machine.execWarmupExpiry s
  | .warmupSecondExpiry => Sys2Proof.Machine.execWarmupSecondExpiry s
  | .cooldownExpiry => Sys2Proof.Machine.execCooldownExpiry s
  | .stopConfirmExpiry => Sys2Proof.Machine.execStopConfirmExpiry s
  | .retryExpiry => Sys2Proof.Machine.execRetryExpiry s
  | .inputSample x closed => Sys2Proof.Machine.execInputSample x closed s
  | .raiseDelayExpiry p => Sys2Proof.Machine.execRaiseDelayExpiry p s
  | .clearDelayExpiry p => Sys2Proof.Machine.execClearDelayExpiry p s

end Sys2Proof.Machine
end

