-- ==== Sys2Proof/WellFormed.lean ====
section
/-! DEFINITION. Which command terms are commands that the block can be sent: what each row of the table
says of its operands. exec is total; a term that is not well-formed has the meaning its operands give it,
or no effect (log entry 32). -/

namespace Sys2Proof

open Sys2Proof.Machine

/-- A request's Source is a station's number, and its payload has at most 64 bytes, of which `lead` come
before the parameters (01 R3, R5). -/
def Req.fits (lead : Nat) (q : Req) : Bool := isStation q.source && decide (lead + q.params.length ≤ 64)

/-- A request of a code whose parameters begin with a byte: a READ_RECORD kind or a COMMAND subcode. -/
def Req.fitsWith (lead : Byte) (q : Req) : Bool := q.fits 1 && q.params.head? == some lead

/-- A request that no other row covers (01 R16, 03 R47, R48). -/
def Req.unknown (q : Req) : Bool := q.fits 0 && (unknownStatus q.params).isSome

/-- A received frame's first character does not come after its last. -/
def RxFrame.timely (f : RxFrame) : Bool := decide (f.begins ≤ f.ends)

/-- A received frame that is well-formed and of a Kind (01 R3, R6). -/
def RxFrame.ofKind (kind : Byte) (f : RxFrame) : Bool :=
  f.timely && (match parseFrame f with
    | some x => x.kind == kind
    | none => false)

/-- A frame that the supervisory port does not accept as a request (01 R15). -/
def RxFrame.discarded (f : RxFrame) : Bool := f.timely && !accepted f

/-- The length of the table store's image (03 R54). -/
def imageLength : Nat := (TableId.all.map fun id => id.count * id.entrySize).sum + 2

/-- The well-formed commands. -/
def Instr.wf : Instr → Bool
  | .discardFrame f => f.discarded
  | .silenceWaitEnd => true
  | .charactersInSilenceWait _ => true
  | .intrudingFrame f => f.timely
  | .answerStart => true
  | .answerSent _ => true
  | .unknownRequest q => q.unknown
  | .status q => q.fits 1
  | .collect q => q.fits 1
  | .readRecordRectifier q => q.fitsWith 1
  | .readRecordString q => q.fitsWith 2
  | .readRecordGenset q => q.fitsWith 3
  | .readRecordGenRun q => q.fitsWith 4
  | .readRecordPlant q => q.fitsWith 5
  | .readRecordStation q => q.fitsWith 6
  | .readRecordMirror q => q.fitsWith 7
  | .readRecordAlarmPoint q => q.fitsWith 8
  | .readRecordCapture q => q.fitsWith 9
  | .readRecordHistory q => q.fitsWith 10
  | .readRecordTestResult q => q.fitsWith 11
  | .cursor q => q.fits 1
  | .writeEntries q => q.fits 1
  | .readEntries q => q.fits 1
  | .forceBoost q => q.fitsWith 0x01
  | .startEqualize q => q.fitsWith 0x02
  | .startTest q => q.fitsWith 0x03
  | .stopTest q => q.fitsWith 0x04
  | .resyncFull q => q.fitsWith 0x05
  | .genStart q => q.fitsWith 0x06
  | .genStop q => q.fitsWith 0x07
  | .genReset q => q.fitsWith 0x08
  | .rectLockout q => q.fitsWith 0x09
  | .rectRestore q => q.fitsWith 0x0A
  | .rotateNow q => q.fitsWith 0x0B
  | .modeManual q => q.fitsWith 0x0C
  | .modeAuto q => q.fitsWith 0x0D
  | .ack q => q.fitsWith 0x0E
  | .releaseCapture q => q.fitsWith 0x0F
  | .setTime q => q.fitsWith 0x10
  | .saveTables q => q.fitsWith 0x11
  | .lockProfile q => q.fitsWith 0x12
  | .restart q => q.fitsWith 0x13
  | .relay q => q.fits 1
  | .result q => q.fits 1
  | .saveComplete _ damage => decide (damage.length ≤ imageLength)
  | .silenceTimerExpiry => true
  | .siteTimeAdvance => true
  | .powerOn _ => true
  | .supplyLow _ => true
  | .resetPin _ => true
  | .restartReset => true
  | .busArbiterChoice => true
  | .frameSendEnd _ => true
  | .replyWindowExpiry => true
  | .reportReceived f => f.ofKind kindReport
  | .confirmReceived f => f.ofKind kindConfirm
  | .declineReceived f => f.ofKind kindDecline
  | .discardBusFrame f => f.timely
  | .resultHoldExpiry _ => true
  | .tempHoldExpiry => true
  | .evaluationExpiry => true
  | .startUpHoldExpiry => true
  | .dischargeDebounceExpiry => true
  | .recoveryDebounceExpiry => true
  | .boostTimerExpiry => true
  | .taperHoldExpiry => true
  | .equalizeIntervalExpiry => true
  | .equalizeDurationExpiry => true
  | .testIntervalExpiry => true
  | .testDurationExpiry => true
  | .disconnectDelayExpiry => true
  | .reconnectDelayExpiry => true
  | .mismatchTimerExpiry => true
  | .sizingTimerExpiry => true
  | .shedTimerExpiry => true
  | .staggerExpiry => true
  | .followTimerExpiry _ => true
  | .recoveryTimerExpiry _ => true
  | .rotationCountExpiry => true
  | .refreshExpiry => true
  | .runMinute _ => true
  | .lowVoltageTimerExpiry => true
  | .dischargeTimeExpiry => true
  | .exerciseCountExpiry => true
  | .exerciseDurationReached => true
  | .minimumRunMet => true
  | .crankExpiry => true
  | .restExpiry => true
  | .warmupExpiry => true
  | .warmupSecondExpiry => true
  | .cooldownExpiry => true
  | .stopConfirmExpiry => true
  | .retryExpiry => true
  | .inputSample _ _ => true
  | .raiseDelayExpiry _ => true
  | .clearDelayExpiry _ => true

end Sys2Proof
end

