-- ==== Sys2Proof/Safety.lean ====
section
/-! DEFINITION. The terms in which the statements speak: what a request is given, the rows that carry a
request, and the laws that the spec sets on the block's registers, queues and buffers. -/

namespace Sys2Proof.Machine

/-! ### Requests -/

/-- The port takes a request whose frame ends: it is READY or RECEIVING, and the Source is a station's
number (01 R5, R14, R16). -/
abbrev State.takes (q : Req) (s : State) : Prop :=
  (s.port.state = .ready ∨ s.port.state = .receiving) ∧ isStation q.source = true

/-- The state in which the body of a request is carried out: the frame has ended and been heard, the
silence timer has started again, and SUPERVISOR_SILENT has ended (01 R14, 03 R45 step 1, R60). -/
def State.takenAs (f : Frame) (q : Req) (s : State) : State :=
  ((s.bringTo q.time).onPort fun x => x.hear f.encode q.time).heard

/-- The same for a request whose parameters follow its code. -/
def State.taken (code : Byte) (q : Req) (s : State) : State := s.takenAs (requestFrame code q) q

/-- The end of an executed request: the port holds its answer, the hand-ons are worked off, and the
relays are worked out (01 R14, R17). -/
def State.answered (code : Byte) (q : Req) (status : Status) (content : List Byte) (s : State) : State :=
  (s.onPort fun x => { x with
    state := .answerPending, answer := some ⟨q.source, q.tag, code, status, content⟩ }).finish

/-- The state with another plant. -/
def State.withPlant (p : Plant) (s : State) : State := { s with plant := p }

/-- The end of a READ_RECORD whose selector has, or has not, the size of its kind: the record's bytes,
none when the selector is out of its range (03 R47). -/
def State.recordAnswered (q : Req) (sized : Bool) (record : Option (List Byte)) (s : State) : State :=
  match sized, record with
  | false, _ => s.answered 0x03 q .badEntry []
  | true, none => s.answered 0x03 q .range []
  | true, some content => s.answered 0x03 q .ok content

/-- The field of a record's bytes at an offset (the record tables). -/
def fieldAt (record : List Byte) (offset size : Nat) : List Byte := (record.drop offset).take size

/-- The characters of the request that a command carries (01 R3, R16). -/
def requestFrameIn (c : Instr) (code : Byte) (q : Req) : Frame :=
  match c with
  | .unknownRequest _ => ⟨0, q.source, kindRequest, q.tag, q.params⟩
  | _ => requestFrame code q

/-- The request that a command carries, with the code its answer echoes, if it is a request's row. -/
def requestIn : Instr → Option (Byte × Req)
  | .unknownRequest q => (unknownStatus q.params).map fun x => (x.1, q)
  | .status q => some (0x01, q)
  | .collect q => some (0x02, q)
  | .readRecordRectifier q | .readRecordString q | .readRecordGenset q | .readRecordGenRun q
  | .readRecordPlant q | .readRecordStation q | .readRecordMirror q | .readRecordAlarmPoint q
  | .readRecordCapture q | .readRecordHistory q | .readRecordTestResult q => some (0x03, q)
  | .cursor q => some (0x04, q)
  | .writeEntries q => some (0x05, q)
  | .readEntries q => some (0x06, q)
  | .forceBoost q | .startEqualize q | .startTest q | .stopTest q | .resyncFull q | .genStart q
  | .genStop q | .genReset q | .rectLockout q | .rectRestore q | .rotateNow q | .modeManual q
  | .modeAuto q | .ack q | .releaseCapture q | .setTime q | .saveTables q | .lockProfile q
  | .restart q => some (0x07, q)
  | .relay q => some (0x08, q)
  | .result q => some (0x09, q)
  | _ => none

/-- Whether a command is one of the four resets. -/
def isReset : Instr → Bool
  | .powerOn _ | .supplyLow _ | .resetPin _ | .restartReset => true
  | _ => false

/-- Whether a command is a cold reset (03, 3.8). -/
def isCold : Instr → Bool
  | .powerOn _ | .supplyLow _ => true
  | _ => false

/-! ### Laws of the supervisory port and the request unit -/

/-- An answer is held exactly from its execution until it has been sent, its characters exactly while it
is sent, and the receive buffer holds at most 72 bytes (01 R2, R14, R17). -/
abbrev Port.law (x : Port) : Prop :=
  (x.answer.isSome = true ↔ x.state = .answerPending ∨ x.state = .sending) ∧
    (x.sending.isSome = true ↔ x.state = .sending) ∧ x.rxBuffer.length ≤ 72

/-- The cursor's index is an entry of its table or stands just past the last (03 R50 to R52). -/
abbrev Cursor.law (c : Cursor) : Prop := c.index ≤ c.table.count

/-! ### Laws of the plant bus engine -/

/-- The poll position, the cycle count, the arbiter's count and the bus tag count stay in their ranges, at
most 8 exchanges are open and no two share a tag, and the exchange on the line is the one that is SENT
(01 R13; 02 R28, R35, R36, R41). -/
abbrev Line.law (l : Line) : Prop :=
  l.pollPos < 24 ∧ l.cycle < 8 ∧ l.arbCount ≤ 2 ∧ l.tagCount < 256 ∧
    l.pool.length ≤ 8 ∧ (l.pool.map (·.tag)).Nodup ∧
    (∀ x ∈ l.pool, x.state = .sent ↔ l.txn.map (·.carried) = some (.exchange x.tag)) ∧
    ∀ x tag, l.txn = some x → x.carried = .exchange tag → tag ∈ l.pool.map (·.tag)

/-- The queue holds at most 16 orders, and no two of the same station and order type (02 R31). -/
abbrev queueLaw (q : List Order) : Prop := q.length ≤ 16 ∧ q.Pairwise fun a b => a.matches b = false

/-- The two counts of a link record stop at 255 (02 R23). -/
abbrev linksLaw (l : Vector Link 32) : Prop := ∀ st : Station, l[st].misses ≤ 255 ∧ l[st].goods ≤ 255

/-! ### Laws of the strings -/

/-- Every string's shortfall lies in its range, and its SOC is the one its shortfall gives (04 R72, R73). -/
abbrev stringsLaw (e : Env) (strings : Vector StringRec 4) : Prop :=
  ∀ i : StringIx, (e.dRange i).1 ≤ strings[i].shortfall ∧ strings[i].shortfall ≤ (e.dRange i).2 ∧
    strings[i].soc = e.soc i strings[i].shortfall

/-! ### Laws of the charge controller, the battery test and load disconnect -/

/-- The trim is never above 0, and it is 0 where no trim step is taken: in MANUAL and in START_UP,
DISCHARGE and TEST (05 R111). -/
abbrev trimLaw (m : Mode) (c : Charge) : Prop := c.trim ≤ 0 ∧ (trims m c.state = false → c.trim = 0)

/-- A plant state's timers run in that state alone (05 R93). -/
abbrev Charge.timerLaw (c : Charge) : Prop :=
  (c.startHold.isRunning = true → c.state = .startUp) ∧
    (c.dischargeDebounce.isRunning = true → c.state = .float ∨ c.state = .boost ∨ c.state = .equalize) ∧
    (c.recoveryDebounce.isRunning = true → c.state = .discharge) ∧
    (c.boost.isRunning = true → c.state = .boost) ∧ (c.taper.isRunning = true → c.state = .boost) ∧
    (c.equalizeDuration.isRunning = true → c.state = .equalize)

/-- The test duration timer runs during a test alone (06 R119, R123). -/
abbrev Test.timerLaw (t : Test) : Prop := t.duration.isRunning = true → t.outcome = .running

/-- A test runs exactly in the plant state TEST, and there on MAINS with the run unit in OFF (06 R119, R122,
R123). -/
abbrev Plant.testLaw (p : Plant) : Prop :=
  (p.charge.state = .test ↔ p.test.outcome = .running) ∧
    (p.charge.state = .test → p.charge.source = .mains ∧ p.gen.run = .off)

/-- The delays run in their pending states alone (06 R127, R128). -/
abbrev LoadDisconnect.timerLaw (x : LoadDisconnect) : Prop :=
  (x.disconnect.isRunning = true → x.state = .disconnectPending) ∧
    (x.reconnect.isRunning = true → x.state = .reconnectPending)

/-- A run state's timers run in that state alone (08 R165 to R170). -/
abbrev GenUnit.timerLaw (g : GenUnit) : Prop :=
  (g.crank.isRunning = true → g.run = .cranking) ∧ (g.rest.isRunning = true → g.run = .rest) ∧
    (g.warmup.isRunning = true → g.run = .warmup) ∧ (g.warmupSecond.isRunning = true → g.run = .warmup) ∧
    (g.cooldown.isRunning = true → g.run = .cooldown) ∧
    (g.stopConfirm.isRunning = true → g.run = .stopping) ∧ (g.retry.isRunning = true → g.run = .failed)

/-- A point's delay timer runs in RAISING and CLEARING alone (10 R187). -/
abbrev pointsLaw (points : Vector Point 40) : Prop :=
  ∀ i : PointIx, points[i].delay.isRunning = true → points[i].state = .raising ∨ points[i].state = .clearing

/-- Every timer of a state runs in that state alone. -/
abbrev Plant.timerLaw (p : Plant) : Prop :=
  p.charge.timerLaw ∧ p.test.timerLaw ∧ p.ld.timerLaw ∧ p.gen.timerLaw ∧ pointsLaw p.alarms.points

/-! ### Laws of the rectifier duty unit -/

/-- The duty list, the out-of-service set and the walk-in queue hold, once each, the records whose
statuses say so; a rotation's incoming rectifier stands in the duty list; a record's fault history holds
at most 3 times; its follow timer runs in the duty list alone, and its recovery timer in FAULTED and LOST
alone (07 R133, R137, R139, R140, R145, R148). -/
abbrev RectUnit.law (r : RectUnit) : Prop :=
  r.duty.Nodup ∧ r.out.Nodup ∧ r.walkIn.Nodup ∧
    (∀ u : RectIx,
      (u ∈ r.duty ↔ (r.status u).onDuty = true) ∧
      (u ∈ r.out ↔ r.status u = .faulted ∨ r.status u = .lost ∨ r.status u = .lockedOut) ∧
      (u ∈ r.walkIn ↔ r.status u = .walkingIn) ∧
      r.records[u].history.length ≤ 3 ∧
      (r.records[u].follow.isRunning = true → (r.status u).onDuty = true) ∧
      (r.records[u].recovery.isRunning = true → r.status u = .faulted ∨ r.status u = .lost)) ∧
    ∀ u, r.inFlight = some u → u ∈ r.duty

/-- In AUTO outside START_UP the target is no lower than the floor, and the active set no smaller than the
target; elsewhere no rotation is in flight (07 R138, R142, R149). -/
abbrev Plant.floorLaw (e : Env) (p : Plant) : Prop :=
  (p.canOrder e = true → min e.tables.rectifier.nMin p.rect.duty.length ≤ p.rect.target ∧
      p.rect.target ≤ p.rect.activeSet.length) ∧
    (p.canOrder e = false → p.rect.inFlight = none)

/-- No record has an order composed without a last report, or in MANUAL or START_UP; while there is an
allowance, the limit last composed of each ACTIVE record is within its share (07 R151 to R153). -/
abbrev Plant.composedLaw (e : Env) (p : Plant) : Prop :=
  (∀ u : RectIx, p.rect.records[u].report = none ∨ p.canOrder e = false →
      p.rect.records[u].composed = none) ∧
    ∀ a, p.gen.allowance = some a → ∀ (u : RectIx) (v l : Nat), p.rect.status u = .active →
      p.rect.records[u].composed = some (v, l) → l ≤ a / p.activeCount

/-! ### Laws of the outputs -/

/-- A start cycle makes no more attempts than its limit: in CRANKING it has made at least one and at most
its limit, and in REST one more is left (08 R165 to R167). -/
abbrev GenUnit.attemptLaw (g : GenUnit) : Prop :=
  (g.run = .cranking → 1 ≤ g.attempts ∧ g.attempts ≤ g.cycleLimit) ∧
    (g.run = .rest → g.attempts < g.cycleLimit)

/-- The setpoint lies within the bus limits of PROFILE in force (05 R87, R112). -/
abbrev setpointLaw (x : Profile) (c : Charge) : Prop := x.busMin ≤ c.setpoint ∧ c.setpoint ≤ x.busMax

/-- GEN RUN, LD and the allowance follow the run state and the load-disconnect state (06 R129; 08 R174,
R175; 09 R184). -/
abbrev Plant.outputLaw (p : Plant) : Prop :=
  p.outputs.genRun = p.gen.run.energized ∧ (p.outputs.ld = true ↔ p.ld.state = .disconnected) ∧
    (p.gen.allowance.isSome = true ↔ p.gen.run = .onLoad ∨ p.gen.run = .cooldown)

/-- Every relay stands as 09 R183 says of the points, the acknowledgements and the plant state. -/
abbrev relayLaw (e : Env) (p : Plant) : Prop :=
  ∀ x : RelayIx, p.outputs.relays[x] = relayEnergized e p.charge.state p.alarms x

/-! ### Laws of the alarm unit -/

/-- The sequence number after another (10 R193). -/
def seqAfter (n : Nat) : Nat := if n = 4294967295 then 1 else n + 1

/-- The entries are numbered in turn, and the next number follows the newest (10 R193). -/
def numberedTo (next : Nat) : List HistoryEntry → Bool
  | [] => true
  | [h] => next == seqAfter h.seq
  | h :: k :: rest => k.seq == seqAfter h.seq && numberedTo next (k :: rest)

/-- The notice queue holds at most 16 notices and at most one of a point; the history ring holds at most
64 entries, numbered in turn (10 R190, R191, R193). -/
abbrev Alarms.law (a : Alarms) : Prop :=
  a.notices.length ≤ 16 ∧ (a.notices.map (·.point)).Nodup ∧ a.history.length ≤ 64 ∧
    numberedTo a.nextSeq a.history = true

/-- A capture that a later one has kept or replaced: the same but for more-faults, which stays set, or one
of a higher severity with more-faults set (10 R195). -/
abbrev Capture.keptOrReplaced (old new : Capture) : Prop :=
  ({ new with moreFaults := old.moreFaults } = old ∧ (old.moreFaults = true → new.moreFaults = true)) ∨
    (old.severity.toNat < new.severity.toNat ∧ new.moreFaults = true)

/-! ### Laws of the table store -/

/-- An image that loads holds tables that valid writes leave (03 R54, R56). -/
abbrev Store.imageLaw (x : Store) : Prop := ∀ u, loadImage x.image = some u → u.wf = true

/-! ### The invariants -/

/-- The registers' law: the port, the cursor and the engine's line side. -/
abbrev State.registerLaw (s : State) : Prop := s.port.law ∧ s.request.cursor.law ∧ s.line.law

/-- The tables are ones that valid writes leave, and the strings' charge lies in the ranges that they give. -/
abbrev State.chargeLaw (s : State) : Prop := s.env.tables.wf = true ∧ stringsLaw s.env s.plant.strings

end Sys2Proof.Machine
end

