-- ==== Sys2Proof/Certificates/Slice0/Obligations.lean ====
section
/-! DEFINITION. The statements for the provers. -/

open Sys2Proof Sys2Proof.Machine

/-! ### The step -/

/-- A step takes the command at the front of the queue and runs it on the state with the queue's rest. -/
def Obligations.StepTakesTheFrontCommand : Prop :=
  ∀ (c : Instr) (rest : List Instr) (s : State), s.pending = c :: rest →
    step s = exec c { s with pending := rest }

/-- The model's choice (log entry 2): on an empty queue one millisecond passes. The clock and the counts
that run move, and no timer expires. Nothing else of the block changes. -/
def Obligations.EmptyQueueLetsOneMillisecondPass : Prop :=
  ∀ s : State, s.pending = [] → ∃ t, step s = .next t ∧
    t.env = { s.env with clock := { s.env.clock with now := s.env.clock.now + 1 } } ∧
    t.port = s.port ∧ t.request = s.request ∧ t.store = s.store ∧ t.line = s.line ∧ t.pending = [] ∧
    t.plant.charge =
      { s.plant.charge with
        equalizeCount := s.plant.charge.equalizeCount + if s.plant.equalizeCounts s.env then 1 else 0 } ∧
    t.plant.test =
      { s.plant.test with count := s.plant.test.count + if s.plant.testCounts s.env then 1 else 0 } ∧
    t.plant.gen =
      { s.plant.gen with
        exerciseCount := s.plant.gen.exerciseCount + if s.plant.exerciseCounts s.env then 1 else 0 } ∧
    t.plant.rect =
      { s.plant.rect with
        rotationCount := s.plant.rect.rotationCount + if s.plant.rotationCounts s.env then 1 else 0
        records := t.plant.rect.records } ∧
    (∀ u : RectIx, t.plant.rect.records[u] =
      { s.plant.rect.records[u] with
        carry := s.plant.rect.records[u].carry + if s.plant.rect.records[u].runs then 1 else 0 }) ∧
    t.plant.alarms = s.plant.alarms ∧ t.plant.outputs = s.plant.outputs ∧
      t.plant.queue = s.plant.queue ∧
    t.plant.strings = s.plant.strings ∧ t.plant.battery = s.plant.battery ∧
      t.plant.ld = s.plant.ld ∧
    t.plant.links = s.plant.links ∧ t.plant.agenda = s.plant.agenda

/-- No command stops the block: every one answers a next state, and the commands still waiting stay as they
were. The agenda a command hands on is worked off one hand-on at a time: each is taken by Plant.handle, and
what it hands on comes before the rest; then the relays are driven from what is left (09 R183). A named
timer's row brings the clock to its end and has its block act; the row of a timer that does not run, and the
expiry handed on of one that is not yet past its length, change nothing. The order, and its bound of 4,096
hand-ons, are the model's choice (log entry 9), and so is the clock's move (log entry 1); that the relays
follow once at the end is its reading (log entry 30). -/
def Obligations.EveryCommandAnswersANextState : Prop :=
  (∀ (e : Env) (n : Nat) (rest : List Signal) (p : Plant),
    p.settle e 0 rest = { p with agenda := p.agenda ++ rest } ∧
    (p.agenda ++ rest = [] → p.settle e (n + 1) rest = p) ∧
    (∀ x more, p.agenda ++ rest = x :: more →
      p.settle e (n + 1) rest = (({ p with agenda := [] } : Plant).handle e x).settle e n more) ∧
    p.settle e n rest = ({ p with agenda := p.agenda ++ rest } : Plant).settle e n []) ∧
  (∀ (s : State) (q : Plant), q = s.plant.settle s.env 4096 [] →
    s.settle = { s with plant := q } ∧
    s.finish = { s with plant := { q with outputs := { q.outputs with
      relays := s.finish.plant.outputs.relays } } } ∧
    (∀ x : RelayIx, s.finish.plant.outputs.relays[x] = true ↔ q.charge.state ≠ .startUp ∧
      ¬ ∃ i : PointIx, s.env.enabled i = true ∧ s.env.tables.alarms[i].relaySet.testBit x.val =
        true ∧
        (q.alarms.points[i].state = .active ∨ q.alarms.points[i].state = .clearing ∨
          q.alarms.points[i].state = .held) ∧
        (s.env.tables.relays[x] = false ∨ q.alarms.points[i].acked = false))) ∧
  (∀ (e : Env) (p : Plant) (s u : State) (id : TimerId) (start length : Nat),
    (p.timer id = .stopped → p.handle e (.expired id) = p) ∧
    (p.timer id = .running start length →
      (start + length ≤ e.now → p.handle e (.expired id) = p.fire e id) ∧
      (e.now < start + length → p.handle e (.expired id) = p)) ∧
    (s.plant.timer id = .stopped → s.expire id = s) ∧
    (s.plant.timer id = .running start length → u = s.bringTo (start + length) →
      s.expire id = (u.withPlant (u.plant.fire u.env id)).finish)) ∧
  (∀ s : State,
    exec .tempHoldExpiry s = .next (s.expire .tempHold) ∧
    exec .evaluationExpiry s = .next (s.expire .evaluation) ∧
    exec .startUpHoldExpiry s = .next (s.expire .startHold) ∧
    exec .dischargeDebounceExpiry s = .next (s.expire .dischargeDebounce) ∧
    exec .recoveryDebounceExpiry s = .next (s.expire .recoveryDebounce) ∧
    exec .boostTimerExpiry s = .next (s.expire .boost) ∧
    exec .taperHoldExpiry s = .next (s.expire .taper) ∧
    exec .equalizeDurationExpiry s = .next (s.expire .equalizeDuration) ∧
    exec .testDurationExpiry s = .next (s.expire .testDuration) ∧
    exec .disconnectDelayExpiry s = .next (s.expire .disconnect) ∧
    exec .reconnectDelayExpiry s = .next (s.expire .reconnect) ∧
    exec .mismatchTimerExpiry s = .next (s.expire .mismatch) ∧
    exec .sizingTimerExpiry s = .next (s.expire .sizing) ∧
    exec .shedTimerExpiry s = .next (s.expire .shed) ∧
    exec .staggerExpiry s = .next (s.expire .stagger) ∧
    exec .refreshExpiry s = .next (s.expire .refresh) ∧
    exec .lowVoltageTimerExpiry s = .next (s.expire .lowVoltage) ∧
    exec .dischargeTimeExpiry s = .next (s.expire .dischargeTime) ∧
    exec .crankExpiry s = .next (s.expire .crank) ∧
    exec .restExpiry s = .next (s.expire .rest) ∧
    exec .warmupExpiry s = .next (s.expire .warmup) ∧
    exec .warmupSecondExpiry s = .next (s.expire .warmupSecond) ∧
    exec .cooldownExpiry s = .next (s.expire .cooldown) ∧
    exec .stopConfirmExpiry s = .next (s.expire .stopConfirm) ∧
    exec .retryExpiry s = .next (s.expire .retry) ∧
    (∀ u, exec (.followTimerExpiry u) s = .next (s.expire (.follow u))) ∧
    (∀ u, exec (.recoveryTimerExpiry u) s = .next (s.expire (.recovery u))) ∧
    (∀ i, exec (.raiseDelayExpiry i) s = .next
      (if s.plant.alarms.points[i].state = .raising then s.expire (.delay i) else s)) ∧
    (∀ i, exec (.clearDelayExpiry i) s = .next
      (if s.plant.alarms.points[i].state = .clearing then s.expire (.delay i) else s))) ∧
  ∀ (c : Instr) (s : State), ∃ t, exec c s = .next t ∧ t.pending = s.pending

/-- Which commands change the registers that blocks share. The working tables change by WRITE_ENTRIES and
cold resets alone (03 R49, R56); the mode by MODE_MANUAL, MODE_AUTO, the silence timer's expiry and resets
(03 R58, R60); site time and its flag by SET_TIME, its own advance and cold resets (03 R64); the store by
SAVE_TABLES, the save's end and resets (03 R54, R55). The plant clock never goes back: that no reset moves
it (log entry 3) and that a command carrying an earlier time leaves it (log entry 1) is the model's choice.
-/
def Obligations.RegistersChangeByTheirOwnCommandsAlone : Prop :=
  ∀ (c : Instr) (s t : State), exec c s = .next t →
    s.env.clock.now ≤ t.env.clock.now ∧
    ((∀ q, c ≠ .writeEntries q) → isCold c = false → t.env.tables = s.env.tables) ∧
    ((∀ q, c ≠ .modeManual q ∧ c ≠ .modeAuto q) → c ≠ .silenceTimerExpiry → isReset c = false →
      t.env.mode = s.env.mode) ∧
    ((∀ q, c ≠ .setTime q) → c ≠ .siteTimeAdvance → isCold c = false →
      t.env.clock.site = s.env.clock.site ∧ t.env.clock.siteSet = s.env.clock.siteSet) ∧
    ((∀ q, c ≠ .saveTables q) → (∀ a d, c ≠ .saveComplete a d) → isReset c = false →
      t.store = s.store)

/-- 03 R57, the part's law: while the profile lock is set, the PROFILE entry does not change, and nothing
but a POWER_ON or SUPPLY_LOW reset clears the lock. LOCK_PROFILE alone sets it, but in SAVING; a cold reset
clears it; and a write to PROFILE under the lock is answered LOCKED. -/
def Obligations.ProfileLockHolds : Prop :=
  (∀ (c : Instr) (s t : State), exec c s = .next t → s.request.lock = true → isCold c = false →
    t.request.lock = true ∧ t.env.tables.profile = s.env.tables.profile) ∧
  (∀ (c : Instr) (s t : State), exec c s = .next t → (∀ q, c ≠ .lockProfile q) →
    s.request.lock = false → t.request.lock = false) ∧
  (∀ (c : Instr) (s t : State), exec c s = .next t → isCold c = true → t.request.lock = false) ∧
  (∀ (q : Req) (s : State), s.takes q → q.params = [0x12] →
    (s.store.state ≠ .saving →
      exec (.lockProfile q) s = .next
        (((s.taken 0x07 q).onRequest fun r => { r with lock := true }).answered 0x07 q .ok [0x12])) ∧
    (s.store.state = .saving →
      exec (.lockProfile q) s = .next ((s.taken 0x07 q).answered 0x07 q .busy [0x12]))) ∧
  (∀ (q : Req) (s : State) (k : Byte) (bytes : List Byte), s.takes q → q.params = k :: bytes →
    s.request.lock = true → s.request.cursor.table = .profile → s.store.state ≠ .saving →
    s.request.cursor.index + k.toNat ≤ 1 → bytes.length = k.toNat * 41 →
    exec (.writeEntries q) s = .next ((s.taken 0x05 q).answered 0x05 q .locked [])) ∧
  (∀ (q : Req) (s : State), s.takes q → q.params = [1] → s.request.cursor = ⟨.profile, 0⟩ →
    ∃ t, exec (.readEntries q) s = .next t ∧
      t.port.answer = some ⟨q.source, q.tag, 0x06, .ok, 1 :: s.env.tables.entryBytes .profile 0⟩) ∧
  (∀ s : State, s.statusContent[29]? = some (BitVec.ofNat 8 s.statusFlags) ∧
    s.statusFlags.testBit 3 = s.request.lock)

/-- 03 R61: the reset-cause set. A POWER_ON reset leaves POWER_ON alone; every other reset adds its cause
and keeps those present; STATUS reports the set as it stood in its 32nd content byte and empties it; nothing
else changes it. Each reset hands its cause to the alarm unit, which writes a RESTART entry. -/
def Obligations.ResetCausesAreKeptUntilStatus : Prop :=
  (∀ (a : Nat) (s t : State), exec (.powerOn a) s = .next t →
    t.request.causes = ⟨true, false, false, false⟩) ∧
  (∀ (a : Nat) (s t : State), exec (.supplyLow a) s = .next t →
    t.request.causes = { s.request.causes with supplyLow := true }) ∧
  (∀ (a : Nat) (s t : State), exec (.resetPin a) s = .next t →
    t.request.causes = { s.request.causes with resetPin := true }) ∧
  (∀ s t : State, exec .restartReset s = .next t → s.request.restartDue = true →
    t.request.causes = { s.request.causes with restart := true }) ∧
  (∀ (q : Req) (s : State), s.takes q → q.params = [] → ∃ t a, exec (.status q) s = .next t ∧
    t.request.causes = ⟨false, false, false, false⟩ ∧ t.port.answer = some a ∧ a.status = .ok ∧
    a.content[31]? = some (BitVec.ofNat 8 s.request.causes.toNat)) ∧
  (∀ (c : Instr) (s t : State), exec c s = .next t → (∀ q, c ≠ .status q) → isReset c = false →
    t.request.causes = s.request.causes) ∧
  (∀ (e : Env) (cause : Cause) (p : Plant), ∃ n,
    (p.afterReset e cause).alarms.history.getLast? = some ⟨n, e.stamp, none, .restart cause⟩)

/-! ### Frames and payloads -/

/-- 01 R3 and R4: the characters received carry a frame exactly when they are that frame's own characters,
none with a framing error, and its payload has at most 64 bytes. So no bit of a frame is dropped, and no
other characters are taken for it. -/
def Obligations.FramesDecodeAsTheyEncode : Prop :=
  ∀ (rx : RxFrame) (f : Frame), parseFrame rx = some f ↔
    rx.framingError = false ∧ f.payload.length ≤ 64 ∧ rx.bytes = f.encode

/-- 01 R3 and R4 on concrete bytes: the reference value of the check, and the characters of a POLL to
station 5 under bus tag 140. -/
def Obligations.CheckReferenceValue : Prop :=
  crc16 [0x31, 0x32, 0x33, 0x34, 0x35, 0x36, 0x37, 0x38, 0x39] = 0x29B1 ∧
  ∃ hi lo : Byte, (Frame.mk 5 0 kindPoll 140 []).encode = [0xC3, 5, 0, 0x10, 140, 0, hi, lo] ∧
    hi.toNat * 256 + lo.toNat = crc16 [5, 0, 0x10, 140, 0]

/-- 01 R7 to R10: the reports of the three roles, field by field, and the payloads that do not fit. -/
def Obligations.ReportsReadFieldByField : Prop :=
  (∀ (v c rated fault : Nat) (temp : Int) (cond : Byte), v < 4294967296 → c < 65536 → 0 < rated →
    rated < 65536 → -32768 ≤ temp → temp < 32768 → fault < 256 →
    readRectReport (be 4 v ++ be 2 c ++ be 2 rated ++ be 2 (twos 2 temp) ++ [cond] ++ be 1 fault) =
      some ⟨v, c, rated, temp, cond.getLsbD 0, cond.getLsbD 1, cond.getLsbD 2, fault⟩) ∧
  (∀ p : List Byte, p.length ≠ 12 → readRectReport p = none) ∧
  (∀ a b : List Byte, a.length = 6 → b.length = 4 → readRectReport (a ++ [0, 0] ++ b) = none) ∧
  (∀ (v : Nat) (c temp : Int) (valid : Byte) (blocks : List Nat), v < 4294967296 → -32768 ≤ c →
    c < 32768 → -32768 ≤ temp → temp < 32768 → blocks.length ≤ 24 → (∀ b ∈ blocks, b < 65536) →
    readStringReport (be 4 v ++ be 2 (twos 2 c) ++ be 2 (twos 2 temp) ++ [valid] ++
        be 1 blocks.length ++ blocks.flatMap (be 2)) =
      some ⟨v, c, temp, valid != 0, blocks⟩) ∧
  (∀ (a : List Byte) (n : Byte) (rest : List Byte), a.length = 9 →
    24 < n.toNat ∨ rest.length ≠ 2 * n.toNat → readStringReport (a ++ [n] ++ rest) = none) ∧
  (∀ p : List Byte, p.length < 10 → readStringReport p = none) ∧
  (∀ (engine : EngineStatus) (avail fuel fault : Byte) (hours : Nat), hours < 4294967296 →
    readGensetReport ([BitVec.ofNat 8 engine.toNat, avail, fuel, fault] ++ be 4 hours) =
      some ⟨engine, avail != 0, min fuel.toNat 100, fault.toNat, hours⟩) ∧
  (∀ (x : Byte) (rest : List Byte), 3 < x.toNat → readGensetReport (x :: rest) = none) ∧
  (∀ p : List Byte, p.length ≠ 8 → readGensetReport p = none)

/-! ### The supervisory port -/

/-- 01 R14, R15 and R18: a frame that the port does not take as a request. In READY and RECEIVING it is
discarded, and the link-fault flag is set when it is malformed, not for station 0, or no REQUEST; in
ANSWER_PENDING any frame is discarded with the flag set, and the answer keeps its place; in SILENCE_WAIT
characters restart the wait and nothing is stored. A silent line brings SILENCE_WAIT to READY. The model's
readings: a frame is taken by the port's state at its end and its first 72 characters stay in the buffer
(log entry 10), a REQUEST with a Source above 31 sets no flag (log entry 33), and the millisecond at which
the silence is long enough (log entry 11). -/
def Obligations.UntakenCharactersAtThePort : Prop :=
  (∀ (f : RxFrame) (s : State), s.port.state = .ready ∨ s.port.state = .receiving →
    accepted f = false →
    exec (.discardFrame f) s = .next { s.bringTo f.ends with
      port := { s.port with
        state := .ready, linkFault := s.port.linkFault || discards f
        rxBuffer := f.bytes.take 72, quietFrom := max s.port.quietFrom f.ends } }) ∧
  (∀ f : RxFrame, discards f = false ↔
    ∃ x, parseFrame f = some x ∧ x.dest = 0 ∧ x.kind = kindRequest) ∧
  (∀ (f : RxFrame) (s : State), s.port.state = .answerPending →
    exec (.intrudingFrame f) s = .next { s.bringTo f.ends with
      port := { s.port with
        linkFault := true, rxBuffer := f.bytes.take 72, quietFrom :=
          max s.port.quietFrom f.ends } } ∧
    exec (.discardFrame f) s = exec (.intrudingFrame f) s) ∧
  (∀ (t : Nat) (s : State), s.port.state = .silenceWait →
    exec (.charactersInSilenceWait t) s = .next { s.bringTo t with
      port := { s.port with quietFrom := max s.port.quietFrom t } }) ∧
  (∀ s : State, s.port.state = .silenceWait →
    exec .silenceWaitEnd s = .next { s.bringTo (s.port.quietFrom + silenceMs s.port.rate) with
      port := { s.port with state := .ready } })

/-- 01 R3, R14 and R17: the answer held begins on the line with the request's Source as Destination, Source
0, Kind ANSWER, the request's Tag, then the code echoed, the status and the content; at its end the port
waits for silence, holds no answer, runs at the SUPERVISION rate, and an answered RESTART has fallen due.
That the answer starts at the millisecond to which the silence before it rounds up is the model's choice
(log entry 11). -/
def Obligations.TheAnswerIsSent : Prop :=
  (∀ (s : State) (a : Answer), s.port.state = .answerPending → s.port.answer = some a →
    a.content.length ≤ 62 → ∃ hi lo : Byte,
      hi.toNat * 256 + lo.toNat =
        crc16 ([a.dest, 0, kindAnswer, a.tag, BitVec.ofNat 8 (a.content.length + 2), a.code,
          BitVec.ofNat 8 a.status.toNat] ++ a.content) ∧
      exec .answerStart s = .next { s.bringTo (s.port.quietFrom + silenceMs s.port.rate) with
        port := { s.port with
          state := .sending
          sending := some ([0xC3, a.dest, 0, kindAnswer, a.tag,
            BitVec.ofNat 8 (a.content.length + 2),
            a.code, BitVec.ofNat 8 a.status.toNat] ++ a.content ++ [hi, lo]) } }) ∧
  (∀ (t : Nat) (s : State) (a : Answer), s.port.state = .sending → s.port.answer = some a →
    exec (.answerSent t) s = .next { s.bringTo t with
      port := { s.port with
        state := .silenceWait, answer := none, sending := none
        rate := s.env.tables.supervision.rate, quietFrom := max s.port.quietFrom t }
      request := { s.request with restartDue := s.request.restartDue ||
        (a.code == 0x07 && a.status == .ok && a.content.head? == some 0x13) } })

/-- 01 R14, R16 and R17: every request that the port takes is answered, whatever its row: the port then
holds one answer to its Source under its Tag with its code echoed and at most 62 bytes of content. A request
of a code, or a COMMAND of a subcode, that is in no table is answered UNKNOWN, and a READ_RECORD of an
unknown kind BAD_ENTRY, with no content. A request of Length 0 is answered with code 0x00 and BAD_ENTRY, and
a READ_RECORD without a kind or a COMMAND without a subcode BAD_ENTRY with its code echoed, with no content
(R16, 03 R47, R48). -/
def Obligations.EveryTakenRequestIsAnswered : Prop :=
  (∀ (c : Instr) (s : State) (code : Byte) (q : Req), requestIn c = some (code, q) → c.wf = true →
    s.takes q → ∃ t status content, exec c s = .next t ∧ content.length ≤ 62 ∧
      t.port.state = .answerPending ∧ t.port.answer = some ⟨q.source, q.tag, code, status,
        content⟩ ∧
      t.port.rate = s.port.rate ∧ t.port.rxBuffer = (requestFrameIn c code q).encode.take 72 ∧
      ((∀ x, c ≠ .status x) → t.port.linkFault = s.port.linkFault)) ∧
  (∀ (q : Req) (s : State) (code : Byte) (status : Status), s.takes q →
    unknownStatus q.params = some (code, status) →
    exec (.unknownRequest q) s = .next
      ((s.takenAs ⟨0, q.source, kindRequest, q.tag, q.params⟩ q).answered code q status [])) ∧
  (∀ (x y : Byte) (rest : List Byte),
    (x.toNat = 0 ∨ 9 < x.toNat → unknownStatus (x :: rest) = some (x, .unknown)) ∧
    (y.toNat = 0 ∨ 0x13 < y.toNat → unknownStatus (0x07 :: y :: rest) = some (0x07, .unknown)) ∧
    (y.toNat = 0 ∨ 11 < y.toNat → unknownStatus (0x03 :: y :: rest) = some (0x03, .badEntry))) ∧
  (unknownStatus [] = some (0x00, .badEntry) ∧ unknownStatus [0x03] = some (0x03, .badEntry) ∧
    unknownStatus [0x07] = some (0x07, .badEntry)) ∧
  (∀ (x y : Byte) (rest : List Byte),
    (x.toNat ≠ 0 → x.toNat ≤ 9 → x ≠ 0x03 → x ≠ 0x07 → unknownStatus (x :: rest) = none) ∧
    (y.toNat ≠ 0 → y.toNat ≤ 0x13 → unknownStatus (0x07 :: y :: rest) = none) ∧
    (y.toNat ≠ 0 → y.toNat ≤ 11 → unknownStatus (0x03 :: y :: rest) = none))

/-- 01 R18: a request whose frame ends while the port takes none is not executed. In ANSWER_PENDING it is
discarded with the link-fault flag set and the first answer keeps its place; in SILENCE_WAIT it restarts the
wait; in SENDING it is not received. -/
def Obligations.UntakenRequestsDoNothingElse : Prop :=
  ∀ (c : Instr) (s : State) (code : Byte) (q : Req), requestIn c = some (code, q) → c.wf = true →
    (s.port.state = .answerPending → exec c s = .next { s.bringTo q.time with
      port := { s.port with
        linkFault := true, rxBuffer := (requestFrameIn c code q).encode.take 72
        quietFrom := max s.port.quietFrom q.time } }) ∧
    (s.port.state = .silenceWait → exec c s = .next { s.bringTo q.time with
      port := { s.port with quietFrom := max s.port.quietFrom q.time } }) ∧
    (s.port.state = .sending → exec c s = .next (s.bringTo q.time))

/-! ### Requests that read -/

/-- 01 R15, 03 R46 and R61: STATUS answers OK with 36 bytes of content, clears the link-fault flag and
empties the reset-cause set, and changes nothing else. The content's flags and causes are those at its
taking. With parameters it is answered BAD_ENTRY (03 R45). The content field by field at its offset and
size, the alarm counts (enabled points in ACTIVE, CLEARING or HELD by severity, and those not acknowledged)
and the flag bits among them, and the enumerations' values. -/
def Obligations.StatusReportsThenClears : Prop :=
  (∀ (q : Req) (s : State), s.takes q → q.params = [] →
    exec (.status q) s = .next (({ s.taken 0x01 q with
      port := { (s.taken 0x01 q).port with linkFault := false }
      request := { (s.taken 0x01 q).request with causes := ⟨false, false, false, false⟩ } }).answered
        0x01 q .ok (s.taken 0x01 q).statusContent)) ∧
  (∀ s : State, s.statusContent.length = 36 ∧
    s.statusContent[0]? = some (BitVec.ofNat 8 s.plant.charge.state.toNat) ∧
    s.statusContent[1]? = some (BitVec.ofNat 8 s.env.mode.toNat) ∧
    s.statusContent[2]? = some (BitVec.ofNat 8 s.plant.charge.source.toNat) ∧
    s.statusContent[19]? = some (BitVec.ofNat 8 s.plant.gen.run.toNat) ∧
    s.statusContent[20]? = some (BitVec.ofNat 8 s.plant.ld.state.toNat) ∧
    s.statusContent[21]? = some (BitVec.ofNat 8 s.plant.activeCount) ∧
    s.statusContent[29]? = some (BitVec.ofNat 8 s.statusFlags) ∧
    s.statusContent[30]? = some (BitVec.ofNat 8 s.store.state.toNat) ∧
    s.statusContent[31]? = some (BitVec.ofNat 8 s.request.causes.toNat)) ∧
  (∀ (q : Req) (s : State), s.takes q → q.params ≠ [] →
    exec (.status q) s = .next ((s.taken 0x01 q).answered 0x01 q .badEntry [])) ∧
  (∀ (s : State) (b : List Byte) (p : Plant) (count : Severity → Nat), b = s.statusContent →
    p = s.plant →
    (∀ v : Severity, count v = (List.finRange 40).countP fun i => decide (s.env.enabled i = true ∧
      s.env.tables.alarms[i].severity = v ∧ (p.alarms.points[i].state = .active ∨
        p.alarms.points[i].state = .clearing ∨ p.alarms.points[i].state = .held))) →
    fieldAt b 0 1 = recU 1 p.charge.state.toNat ∧ fieldAt b 1 1 = recU 1 s.env.mode.toNat ∧
    fieldAt b 2 1 = recU 1 p.charge.source.toNat ∧
    fieldAt b 3 4 = recU 4 (match p.battery.busVoltage with | some v => v | none => 0) ∧
    fieldAt b 7 4 = recU 4 p.charge.setpoint ∧ fieldAt b 11 2 = recS 2 p.battery.iBat ∧
    fieldAt b 13 2 = recU 2 p.battery.iChg.toNat ∧ fieldAt b 15 1 = recU 1 p.battery.weakestSoc ∧
    fieldAt b 16 1 = recU 1 (match p.battery.weakestIndex with | some i => i.val | none => 255) ∧
    fieldAt b 17 2 = recS 2 p.battery.tComp ∧ fieldAt b 19 1 = recU 1 p.gen.run.toNat ∧
    fieldAt b 20 1 = recU 1 p.ld.state.toNat ∧
    fieldAt b 21 1 = recU 1 ((List.finRange 12).countP fun u =>
      decide (p.rect.records[u].status = .active)) ∧
    fieldAt b 22 1 = recU 1 p.rect.duty.length ∧
    fieldAt b 23 1 = recU 1 (count .critical) ∧ fieldAt b 24 1 = recU 1 (count .major) ∧
    fieldAt b 25 1 = recU 1 (count .minor) ∧ fieldAt b 26 1 = recU 1 (count .warning) ∧
    fieldAt b 27 1 = recU 1 ((List.finRange 40).countP fun i => decide (s.env.enabled i = true ∧
      p.alarms.points[i].acked = false ∧ (p.alarms.points[i].state = .active ∨
        p.alarms.points[i].state = .clearing ∨ p.alarms.points[i].state = .held))) ∧
    fieldAt b 28 1 = recU 1 p.alarms.notices.length ∧
    fieldAt b 29 1 = recU 1 (bits [s.port.linkFault, p.alarms.overflow, s.request.unsaved,
      s.request.lock, s.env.clock.siteSet, p.battery.busVoltage.isSome,
      decide (∃ i : StringIx, p.strings[i].status = .reporting ∧ p.strings[i].estimated = true)]) ∧
    fieldAt b 30 1 = recU 1 s.store.state.toNat ∧
    fieldAt b 31 1 = recU 1 (bits [s.request.causes.powerOn, s.request.causes.supplyLow,
      s.request.causes.resetPin, s.request.causes.restart]) ∧
    fieldAt b 32 4 = recU 4 s.env.clock.site) ∧
  (∀ (l : List Bool) (k : Nat), (bits l).testBit k = l.getD k false) ∧
  ((([.startUp, .float, .discharge, .boost, .equalize, .test] : List PlantState).map (·.toNat) =
      [0, 1, 2, 3, 4, 5]) ∧
    (([.auto, .manual] : List Mode).map (·.toNat) = [0, 1]) ∧
    (([.none, .mains, .generator] : List Source).map (·.toNat) = [0, 1, 2]) ∧
    (([.off, .cranking, .rest, .warmup, .onLoad, .cooldown, .stopping, .failed, .lockedOut,
      .disabled] : List RunState).map (·.toNat) = [0, 1, 2, 3, 4, 5, 6, 7, 8, 9]) ∧
    (([.connected, .disconnectPending, .disconnected,
      .reconnectPending] : List LdState).map (·.toNat) =
      [0, 1, 2, 3]) ∧
    (([.valid, .invalid, .saving] : List StoreState).map (·.toNat) = [0, 1, 2]))

/-- 10 R192: COLLECT removes up to four notices, answers how many, how many are left, the overflow flag as
it stood, and the notices at 13 bytes each, field by field: the point, the kind, the severity, the site
time, the flags of the time set and of a valid bus voltage, the bus voltage with 0 when invalid, and the
plant state; it clears the flag. With parameters it is answered BAD_ENTRY (03 R45). The notices chosen are
those of highest severity, within one severity the oldest by position, in that order; the notices left keep
their order. -/
def Obligations.CollectTakesTheHighestThenTheOldest : Prop :=
  (∀ (n : Notice) (b : List Byte), b = n.bytes →
    fieldAt b 0 1 = recU 1 n.point.val ∧
    fieldAt b 1 1 = recU 1 (match n.kind with
      | .raise => 0 | .clear => 1 | .transient => 2 | .repeat => 3) ∧
    fieldAt b 2 1 = recU 1 (match n.severity with
      | .warning => 0 | .minor => 1 | .major => 2 | .critical => 3) ∧
    fieldAt b 3 4 = recU 4 n.stamp.site ∧
    fieldAt b 7 1 = recU 1 ((if n.stamp.set then 1 else 0) + if n.bus.isSome then 2 else 0) ∧
    fieldAt b 8 4 = recU 4 (match n.bus with | some v => v | none => 0) ∧
    fieldAt b 12 1 = recU 1 (match n.plant with
      | .startUp => 0 | .float => 1 | .discharge => 2 | .boost => 3 | .equalize => 4 | .test => 5)) ∧
  (∀ (q : Req) (s : State), s.takes q → q.params = [] →
    ∀ (u : State) (out left : List Notice), u = s.taken 0x02 q →
      collectNotices 4 u.plant.alarms.notices = (out, left) →
      exec (.collect q) s = .next (({ u with plant := { u.plant with
          alarms := { u.plant.alarms with notices := left, overflow := false } } }).answered 0x02 q .ok
        (recU 1 out.length ++ recU 1 left.length ++
          recU 1 (if u.plant.alarms.overflow then 1 else 0) ++
          out.flatMap Notice.bytes))) ∧
  (∀ n : Notice, n.bytes.length = 13) ∧
  (∀ (q : Req) (s : State), s.takes q → q.params ≠ [] →
    exec (.collect q) s = .next ((s.taken 0x02 q).answered 0x02 q .badEntry [])) ∧
  ∀ ns out left : List Notice, (ns.map (·.point)).Nodup → collectNotices 4 ns = (out, left) →
    out.length = min 4 ns.length ∧ left.Sublist ns ∧ (out ++ left).Perm ns ∧
    (∀ a ∈ out, ∀ b ∈ left, b.severity.toNat ≤ a.severity.toNat ∧
      (b.severity = a.severity → ns.idxOf a < ns.idxOf b)) ∧
    out.Pairwise fun a b => b.severity.toNat ≤ a.severity.toNat ∧
      (b.severity = a.severity → ns.idxOf a < ns.idxOf b)

/-- 03 R47: each READ_RECORD row answers its record, changes nothing, and is answered BAD_ENTRY for a
selector of the wrong size and RANGE for one outside its range. -/
def Obligations.RecordReadsAnswerTheirRecord : Prop :=
  ∀ (q : Req) (s : State) (sel : List Byte), s.takes q →
    (q.params = 1 :: sel → exec (.readRecordRectifier q) s = .next
      ((s.taken 0x03 q).recordAnswered q (sel.length == 1)
        (if h : beVal sel < 12 then some ((s.taken 0x03 q).rectRecord ⟨beVal sel, h⟩) else none))) ∧
    (q.params = 2 :: sel → exec (.readRecordString q) s = .next
      ((s.taken 0x03 q).recordAnswered q (sel.length == 1)
        (if h : beVal sel < 4 then some ((s.taken 0x03 q).stringRecord ⟨beVal sel,
          h⟩) else none))) ∧
    (q.params = 3 :: sel → exec (.readRecordGenset q) s = .next
      ((s.taken 0x03 q).recordAnswered q (sel.length == 0) (some (s.taken 0x03 q).gensetRecord))) ∧
    (q.params = 4 :: sel → exec (.readRecordGenRun q) s = .next
      ((s.taken 0x03 q).recordAnswered q (sel.length == 0) (some (s.taken 0x03 q).genRunRecord))) ∧
    (q.params = 5 :: sel → exec (.readRecordPlant q) s = .next
      ((s.taken 0x03 q).recordAnswered q (sel.length == 0) (some (s.taken 0x03 q).plantRecord))) ∧
    (q.params = 6 :: sel → exec (.readRecordStation q) s = .next
      ((s.taken 0x03 q).recordAnswered q (sel.length == 1)
        (if h : 1 ≤ beVal sel ∧ beVal sel ≤ 30 then
          some ((s.taken 0x03 q).stationRecord ⟨beVal sel, by omega⟩) else none))) ∧
    (q.params = 7 :: sel → exec (.readRecordMirror q) s = .next
      ((s.taken 0x03 q).recordAnswered q (sel.length == 1)
        (if h : 1 ≤ beVal sel ∧ beVal sel ≤ 30 then
          some ((s.taken 0x03 q).mirrorRecord ⟨beVal sel, by omega⟩) else none))) ∧
    (q.params = 8 :: sel → exec (.readRecordAlarmPoint q) s = .next
      ((s.taken 0x03 q).recordAnswered q (sel.length == 1)
        (if h : beVal sel < 40 then some ((s.taken 0x03 q).pointRecord ⟨beVal sel,
          h⟩) else none))) ∧
    (q.params = 9 :: sel → exec (.readRecordCapture q) s = .next
      ((s.taken 0x03 q).recordAnswered q (sel.length == 0) (some (s.taken 0x03 q).captureRecord))) ∧
    (q.params = 10 :: sel → exec (.readRecordHistory q) s = .next
      ((s.taken 0x03 q).recordAnswered q (sel.length == 4)
        (some ((s.taken 0x03 q).historyRecord (beVal sel))))) ∧
    (q.params = 11 :: sel → exec (.readRecordTestResult q) s = .next
      ((s.taken 0x03 q).recordAnswered q (sel.length == 0) (some (s.taken 0x03 q).testRecord)))

/-- The records of READ_RECORD: the size that each record table gives, and each field's value at its offset
and size (02 R23, R30; 04 R83; 05 R113; 06 R124; 07 R155; 08 R176; 10 R194 to R196), with the codes of the
enumerations and the place of each flag bit, and which entry a HISTORY read returns with which mark. A field
is its value's bytes where the value fits; a value that does not fit reads as a free value (log entry 7).
The sizes and the status code of the STATION record (log entry 25) and the contact-only flag outside
REPORTING (log entry 41) are the model's reading. -/
def Obligations.RecordsHaveTheirSizes : Prop :=
  (∀ s : State,
    (∀ u, (s.rectRecord u).length = 34) ∧
    (∀ i, (s.stringRecord i).length = 24 + 2 * min s.plant.strings[i].blocks.length 19) ∧
    s.gensetRecord.length = 13 ∧ s.genRunRecord.length = 23 ∧ s.plantRecord.length = 36 ∧
    (∀ st, (s.stationRecord st).length = 9) ∧
    (∀ st, (s.mirrorRecord st).length = 3 + (match s.line.mirrors[st] with
      | none => 0
      | some m => min m.payload.length 59)) ∧
    (∀ i, (s.pointRecord i).length = 19) ∧
    ((∀ c, s.plant.alarms.capture = some c → s.captureRecord.length = 16) ∧
      (s.plant.alarms.capture = none → s.captureRecord = List.replicate 16 0)) ∧
    (∀ n, s.plant.alarms.history ≠ [] → (s.historyRecord n).length = 17) ∧
    s.testRecord.length = 27) ∧
  (∀ (n : Nat) (ring : List HistoryEntry) (oldest newest : HistoryEntry), oldest.seq ≤ newest.seq →
    (∀ h ∈ ring, oldest.seq ≤ h.seq ∧ h.seq ≤ newest.seq) →
    (∀ h ∈ ring, h.seq = n → ∃ k ∈ ring, k.seq = n ∧ findHistory n oldest newest ring = (0, k)) ∧
    (n < oldest.seq → findHistory n oldest newest ring = (1, oldest)) ∧
    (newest.seq < n → findHistory n oldest newest ring = (2, newest))) ∧
  (∀ (s : State) (u : RectIx) (b : List Byte) (x : RectRec) (r : RectReport) (now : Nat), b =
    s.rectRecord u →
    x = s.plant.rect.records[u] → now = s.env.now →
    x.report = some r ∨ (x.report = none ∧ r = ⟨0, 0, 0, 0, false, false, false, 0⟩) →
    fieldAt b 0 1 = recU 1 x.status.toNat ∧
    fieldAt b 1 1 = recU 1 (match s.env.rectStation u with | some st => st.val | none => 0) ∧
    (u ∈ s.plant.rect.duty → fieldAt b 2 1 = recU 1 (s.plant.rect.duty.idxOf u)) ∧
    (u ∉ s.plant.rect.duty → fieldAt b 2 1 = recU 1 255) ∧
    fieldAt b 3 1 = recU 1 (bits [r.acOk, r.outputOn, r.limiting, x.report.isSome,
      x.commanded.isSome,
      x.commanded == some true, x.composed.isSome, s.plant.rect.inFlight == some u]) ∧
    fieldAt b 4 4 = recU 4 r.voltage ∧ fieldAt b 8 2 = recU 2 r.current ∧
    fieldAt b 10 2 = recU 2 r.rated ∧ fieldAt b 12 2 = recS 2 r.temperature ∧
    fieldAt b 14 1 = recU 1 r.fault ∧
    fieldAt b 15 1 = recU 1 x.lastCause.toNat ∧ fieldAt b 16 1 = recU 1 (x.decline.getD 0) ∧
    fieldAt b 17 1 = recU 1 x.history.length ∧
    fieldAt b 18 2 = recU 2 (secondsSince now x.history.getLast?) ∧
    fieldAt b 20 4 = recU 4 (x.composed.getD (0, 0)).1 ∧
    fieldAt b 24 2 = recU 2 (x.composed.getD (0, 0)).2 ∧ fieldAt b 26 4 = recU 4 x.minutes ∧
    fieldAt b 30 2 = recU 2 (x.follow.seconds now) ∧ fieldAt b 32 2 =
      recU 2 (x.recovery.seconds now)) ∧
  (∀ (s : State) (i : StringIx) (b : List Byte) (x : StringRec), b = s.stringRecord i →
    x = s.plant.strings[i] →
    fieldAt b 0 1 = recU 1 x.status.toNat ∧
    fieldAt b 1 1 = recU 1 (bits [s.env.fitted i, x.tempValid, x.estimated, x.imbalance]) ∧
    fieldAt b 2 4 = recU 4 x.voltage ∧ fieldAt b 6 2 = recS 2 x.current ∧
    fieldAt b 8 2 = recS 2 x.temperature ∧ fieldAt b 10 1 = recU 1 x.soc ∧
    fieldAt b 11 4 = recS 4 x.shortfall ∧ fieldAt b 15 4 = recS 4 x.residue ∧
    fieldAt b 19 2 = recU 2 (secondsSince s.env.now x.tPrev) ∧ fieldAt b 21 2 = recU 2 x.spread ∧
    fieldAt b 23 1 = recU 1 x.blocks.length ∧ b.drop 24 = (x.blocks.take 19).flatMap (recU 2)) ∧
  (∀ (s : State) (b : List Byte) (g : GenUnit) (r : GensetReport) (t : Option Nat), b =
    s.gensetRecord → g = s.plant.gen →
    (∃ n, g.report = some (r, n) ∧ t = some n) ∨ (g.report = none ∧ t = none ∧
      r = ⟨.stopped, false, 0, 0, 0⟩) →
    fieldAt b 0 1 = recU 1 g.status.toNat ∧
    fieldAt b 1 1 = recU 1 (match s.env.gensetStation with | some st => st.val | none => 0) ∧
    fieldAt b 2 1 = recU 1 (bits [t.isSome, r.available, r.fault != 0, g.decline.isSome, g.fuelLow,
      g.fuelCritical, s.env.tables.genset.fitted]) ∧
    fieldAt b 3 1 = recU 1 r.engine.toNat ∧ fieldAt b 4 1 = recU 1 r.fuel ∧
      fieldAt b 5 1 = recU 1 r.fault ∧
    fieldAt b 6 4 = recU 4 r.hours ∧ fieldAt b 10 2 = recU 2 (secondsSince s.env.now t) ∧
    fieldAt b 12 1 = recU 1 (g.decline.getD 0)) ∧
  (∀ (s : State) (b : List Byte) (g : GenUnit) (now : Nat), b = s.genRunRecord → g = s.plant.gen →
    now = s.env.now →
    fieldAt b 0 1 = recU 1 g.run.toNat ∧
    fieldAt b 1 1 = recU 1 (bits [g.reasons.lowVoltage, g.reasons.lowSoc, g.reasons.dischargeTime,
      g.reasons.exercise, g.reasons.manual]) ∧
    fieldAt b 2 1 = recU 1 g.attempts ∧
    fieldAt b 3 1 = recU 1 (bits [g.status != .reporting, g.retryDue, g.exerciseDue, g.startFailed,
      g.engineFailure, g.failedSinceRun, g.resetOutstanding, s.plant.outputs.genRun]) ∧
    fieldAt b 4 1 = recU 1 g.lastCause.toNat ∧ fieldAt b 5 4 = recU 4 ((now - g.since) / 1000) ∧
    fieldAt b 9 4 = recU 4 ((match g.runStart with | some t => now - t | none => g.runTime) / 1000) ∧
    fieldAt b 13 4 = recU 4 (g.allowance.getD 0) ∧ fieldAt b 17 2 =
      recU 2 (g.exerciseCount / 3600000) ∧
    fieldAt b 19 4 = recU 4 (g.dischargeTime.seconds now)) ∧
  (∀ (s : State) (b : List Byte) (c : Charge) (now : Nat), b = s.plantRecord → c = s.plant.charge →
    now = s.env.now →
    fieldAt b 0 1 = recU 1 c.state.toNat ∧ fieldAt b 1 1 = recU 1 c.source.toNat ∧
    fieldAt b 2 1 = recU 1 (bits [c.mains, c.overTemp, c.highTemp, c.equalizePending,
      c.boostInhibit,
      c.boostTimeout, decide (c.trim < 0), s.env.hasInput .mainsSense]) ∧
    fieldAt b 3 1 = recU 1 s.plant.battery.tSource.toNat ∧
    fieldAt b 4 4 = recU 4 ((now - c.stateSince) / 1000) ∧ fieldAt b 8 4 = recS 4 c.base ∧
    fieldAt b 12 2 = recS 2 c.trim ∧ fieldAt b 14 4 = recU 4 c.setpoint ∧
      fieldAt b 18 2 = recS 2 c.tUsed ∧
    fieldAt b 20 4 = recS 4 c.compensation ∧ fieldAt b 24 2 = recU 2 c.iLim ∧
    fieldAt b 26 2 = recU 2 c.taperCurrent ∧ fieldAt b 28 4 = recU 4 (c.boost.seconds now) ∧
    fieldAt b 32 2 = recU 2 (min (c.taper.seconds now) 65535) ∧
    fieldAt b 34 2 = recU 2 (c.equalizeCount / 3600000)) ∧
  (∀ (s : State) (p : PointIx) (b : List Byte) (x : Point) (a : AlarmEntry), b = s.pointRecord p →
    x = s.plant.alarms.points[p] → a = s.env.tables.alarms[p] →
    fieldAt b 0 1 = recU 1 x.state.toNat ∧
    fieldAt b 1 1 = recU 1 (bits [x.acked, x.condition,
      a.enable || p.val == 0 || p.val == 3 || p.val == 12, a.latching,
      s.plant.alarms.notices.any fun n => n.point == p, p.val == 0 || p.val == 3 || p.val == 12,
      x.raiseTime.isSome]) ∧
    fieldAt b 2 1 = recU 1 a.severity.toNat ∧ fieldAt b 3 1 = recU 1 a.route.toNat ∧
    fieldAt b 4 1 = recU 1 a.relaySet ∧ fieldAt b 5 2 = recU 2 (x.delay.seconds s.env.now) ∧
    fieldAt b 7 4 = recU 4 (x.raiseTime.getD 0) ∧
    (p.val < 32 → b.drop 11 = recU 1 0 ++ recU 1 0 ++ recU 1 0 ++ recU 4 0 ++ recU 1 0) ∧
    (∀ i : InputIx, p.val = 32 + i.val → ∀ y : Input, y = s.env.inputs[i] →
      fieldAt b 11 1 = recU 1 s.env.tables.inputs[i].function.toNat ∧
      fieldAt b 12 1 = recU 1 (bits [y.accepted]) ∧ fieldAt b 13 1 = recU 1 y.samples ∧
      (∀ t, y.lastChange = some t → fieldAt b 14 4 = recU 4 t.site ∧
        fieldAt b 18 1 = recU 1 (bits [true, t.set])) ∧
      (y.lastChange = none → fieldAt b 14 4 = recU 4 0 ∧ fieldAt b 18 1 = recU 1 0))) ∧
  (∀ (s : State) (b : List Byte) (c : Capture), b = s.captureRecord →
    s.plant.alarms.capture = some c →
    fieldAt b 0 1 = recU 1 (bits [true, c.moreFaults, c.stamp.set, c.bus.isSome]) ∧
    fieldAt b 1 1 = recU 1 c.point.val ∧ fieldAt b 2 1 = recU 1 c.severity.toNat ∧
    fieldAt b 3 4 = recU 4 c.stamp.site ∧ fieldAt b 7 1 = recU 1 c.plant.toNat ∧
    fieldAt b 8 1 = recU 1 c.source.toNat ∧ fieldAt b 9 4 = recU 4 (c.bus.getD 0) ∧
    fieldAt b 13 1 = recU 1 c.soc ∧ fieldAt b 14 1 = recU 1 c.run.toNat ∧
    fieldAt b 15 1 = recU 1 c.activeRects) ∧
  (∀ (s : State) (n : Nat) (b : List Byte) (oldest newest h : HistoryEntry) (mark : Nat), b =
    s.historyRecord n →
    s.plant.alarms.history.head? = some oldest → s.plant.alarms.history.getLast? = some newest →
    findHistory n oldest newest s.plant.alarms.history = (mark, h) →
    fieldAt b 0 1 = recU 1 mark ∧ fieldAt b 1 4 = recU 4 newest.seq ∧ fieldAt b 5 4 = recU 4 h.seq ∧
    fieldAt b 9 4 = recU 4 h.stamp.site ∧ fieldAt b 13 1 = recU 1 (bits [h.stamp.set]) ∧
    fieldAt b 14 1 = recU 1 (match h.point with | some p => p.val | none => 255) ∧
    fieldAt b 15 2 = (match h.event with
      | .raise => recU 1 0 ++ recU 1 0
      | .clear => recU 1 1 ++ recU 1 0
      | .ack => recU 1 2 ++ recU 1 0
      | .restart .powerOn => recU 1 3 ++ recU 1 1
      | .restart .supplyLow => recU 1 3 ++ recU 1 2
      | .restart .resetPin => recU 1 3 ++ recU 1 3
      | .restart .restart => recU 1 3 ++ recU 1 4)) ∧
  (∀ (s : State) (b : List Byte) (t : Test), b = s.testRecord → t = s.plant.test →
    fieldAt b 0 1 = recU 1 t.outcome.toNat ∧ fieldAt b 1 1 = recU 1 t.cause.toNat ∧
    fieldAt b 2 1 = recU 1 (bits [t.stamp.set, t.minBus.isSome, t.pending, t.failed]) ∧
    fieldAt b 3 4 = recU 4 t.stamp.site ∧
    fieldAt b 7 2 = recU 2 (if t.outcome =
      .running then (s.env.now - t.started) / 1000 else t.seconds) ∧
    fieldAt b 9 4 = recS 4 t.removed ∧ fieldAt b 13 4 = recU 4 (t.minBus.getD 0) ∧
    fieldAt b 17 4 = recU 4 t.voltage ∧ fieldAt b 21 4 = recU 4 t.threshold ∧
    fieldAt b 25 2 = recU 2 (t.count / 3600000)) ∧
  (∀ (s : State) (st : Station) (x : StationEntry) (l : Link), x = s.env.entry st →
    l = s.plant.links[st] →
    s.stationRecord st = [BitVec.ofNat 8 x.role.toNat, BitVec.ofNat 8 x.unit,
      BitVec.ofNat 8 x.policy.toNat,
      BitVec.ofNat 8 (if x.mirror then 1 else 0)] ++ recU 1 l.status.toNat ++ recU 1 l.misses ++
      recU 1 l.goods ++ recU 2 (secondsSince s.env.now l.lastReply)) ∧
  (∀ (s : State) (st : Station),
    (s.line.mirrors[st] = none → s.mirrorRecord st = recU 1 0 ++ recU 2 65535) ∧
    (∀ m, s.line.mirrors[st] = some m → s.mirrorRecord st = recU 1 m.payload.length ++
      recU 2 (min ((s.env.now - m.time) / 1000) 65535) ++ m.payload.take 59)) ∧
  ((∀ n v, v < 256 ^ n → recU n v = be n v) ∧
    (∀ n (v : Int), -(256 ^ n / 2 : Nat) ≤ v → v < (256 ^ n / 2 : Nat) →
      recS n v = be n (twos n v)) ∧
    (∀ (l : List Bool) (k : Nat), (bits l).testBit k = (l[k]?).getD false) ∧
    ([UnitStatus.absent, .discovering, .reporting, .lost].map UnitStatus.toNat = [0, 1, 2, 3] ∧
      [RectStatus.absent, .discovering, .active, .walkingIn, .standby, .faulted, .lost,
        .lockedOut].map
        RectStatus.toNat = [0, 1, 2, 3, 4, 5, 6, 7] ∧
      [FaultCause.none, .reported, .declined, .notFollowing].map FaultCause.toNat = [0, 1, 2, 3] ∧
      [GenCause.none, .start, .run, .stop].map GenCause.toNat = [0, 1, 2, 3] ∧
      [EngineStatus.stopped, .cranking, .running, .fault].map EngineStatus.toNat = [0, 1, 2, 3] ∧
      [TempSource.live, .holding, .fallback].map TempSource.toNat = [0, 1, 2] ∧
      [TestOutcome.none, .running, .passed, .failed, .abortedMains, .abortedGenerator,
        .abortedCommand,
        .abortedAlarm].map TestOutcome.toNat = [0, 1, 2, 3, 4, 5, 6, 7] ∧
      [TestCause.none, .command, .schedule].map TestCause.toNat = [0, 1, 2] ∧
      [PointState.idle, .raising, .active, .clearing, .held].map PointState.toNat = [0, 1, 2, 3,
        4] ∧
      [Route.notice, .historyOnly, .silent].map Route.toNat = [0, 1, 2]))

/-! ### The tables and the store -/

/-- 03 R50 and R52: CURSOR and READ_ENTRIES, check by check in their order. -/
def Obligations.CursorAndReadEntries : Prop :=
  ∀ (q : Req) (s : State), s.takes q →
    (q.params.length ≠ 2 →
      exec (.cursor q) s = .next ((s.taken 0x04 q).answered 0x04 q .badEntry [])) ∧
    (∀ a i : Byte, q.params = [a, i] →
      (12 < a.toNat → exec (.cursor q) s = .next ((s.taken 0x04 q).answered 0x04 q .range [])) ∧
      (∀ id, TableId.all[a.toNat]? = some id →
        (id.count ≤ i.toNat →
          exec (.cursor q) s = .next ((s.taken 0x04 q).answered 0x04 q .range [])) ∧
        (i.toNat < id.count →
          exec (.cursor q) s = .next (((s.taken 0x04 q).onRequest fun r =>
            { r with cursor := ⟨id, i.toNat⟩ }).answered 0x04 q .ok [])))) ∧
    (q.params.length ≠ 1 →
      exec (.readEntries q) s = .next ((s.taken 0x06 q).answered 0x06 q .badEntry [])) ∧
    (∀ (k : Byte) (c : Cursor), q.params = [k] → c = s.request.cursor →
      (c.table.count < c.index + k.toNat ∨ 61 < k.toNat * c.table.entrySize →
        exec (.readEntries q) s = .next ((s.taken 0x06 q).answered 0x06 q .range [])) ∧
      (c.index + k.toNat ≤ c.table.count → k.toNat * c.table.entrySize ≤ 61 →
        exec (.readEntries q) s = .next (((s.taken 0x06 q).onRequest fun r =>
          { r with cursor := ⟨c.table, c.index + k.toNat⟩ }).answered 0x06 q .ok
            (k :: (List.range k.toNat).flatMap fun j =>
              s.env.tables.entryBytes c.table (c.index + j)))))

/-- 03 R51: WRITE_ENTRIES, check by check in their order; then the entries are taken in turn, and the answer
is OK with the count, or BAD_ENTRY with the count written before the first invalid entry. -/
def Obligations.WriteEntriesChecksInOrder : Prop :=
  ∀ (q : Req) (s : State), s.takes q →
    (q.params = [] →
      exec (.writeEntries q) s = .next ((s.taken 0x05 q).answered 0x05 q .badEntry [])) ∧
    ∀ (k : Byte) (bytes : List Byte) (c : Cursor), q.params = k :: bytes → c = s.request.cursor →
      (bytes.length ≠ k.toNat * c.table.entrySize →
        exec (.writeEntries q) s = .next ((s.taken 0x05 q).answered 0x05 q .badEntry [])) ∧
      (bytes.length = k.toNat * c.table.entrySize →
        (s.store.state = .saving →
          exec (.writeEntries q) s = .next ((s.taken 0x05 q).answered 0x05 q .busy [])) ∧
        (s.store.state ≠ .saving →
          (c.table.count < c.index + k.toNat →
            exec (.writeEntries q) s = .next ((s.taken 0x05 q).answered 0x05 q .range [])) ∧
          (c.index + k.toNat ≤ c.table.count →
            (c.table = .profile → s.request.lock = true →
              exec (.writeEntries q) s = .next ((s.taken 0x05 q).answered 0x05 q .locked [])) ∧
            (c.table ≠ .profile ∨ s.request.lock = false →
              ∀ (u : State) (n : Nat),
                (s.taken 0x05 q).writeAll (pieces c.table.entrySize k.toNat bytes) = (u, n) →
                (n = k.toNat →
                  exec (.writeEntries q) s = .next (u.answered 0x05 q .ok [BitVec.ofNat 8 n])) ∧
                (n < k.toNat →
                  exec (.writeEntries q) s =
                    .next (u.answered 0x05 q .badEntry [BitVec.ofNat 8 n]))))))

/-- 03 R49, R51 and R53: the entries of a write taken in turn. An invalid one ends the write with nothing
more changed; a valid one replaces the stored entry whole, leaves every other entry as it was, sets
tables-unsaved and advances the cursor; before that the owning block takes the entry's effects, and all they
hand on. What each table's write does to the blocks follows: FIELD_TIMING and SUPERVISION, POLL_LIST and
RELAYS; PROFILE and STRINGS (04 R66, 05 R87) hand to what the statement on string reports pins; PLANT (05
R89, 06 R115); LOAD_DISCONNECT (06 R126); ALARMS (10 R185); RECTIFIER (07 R136); GENSET (08 R157, R171). A
running timer keeps its start and takes the new length, and is over at once where its run already reaches
it; a count that has reached its new interval falls due; an interval of 0 clears it. The order of the
hand-ons is the model's choice (log entries 6 and 9). An entry with a field outside its values is not
written, and the further tests of POLL_LIST, PROFILE, RECTIFIER, GENSET, LOAD_DISCONNECT and INPUTS decide
for one within them (02 R27; 05 R86; 06 R126; 07 R136; 08 R157; 09 R178); FIELD_TIMING, STRINGS, PLANT,
RELAYS, ALARMS and SUPERVISION take every entry within them. That the equalize count is 0 once its interval
has made an equalize pending is the model's reading (log entry 13). The model's choices: which timer expires
first when a write ends several (log entry 45), and that a retry already due stays due when its interval is
written 0 (log entry 48). Where a PLANT or GENSET write works out the alarm unit's own conditions is its
choice too (log entry 63). So is the order of a write's other effects (log entry 68). -/
def Obligations.AnEntryIsWrittenWholeOrNotAtAll : Prop :=
  (∀ (x : List Byte) (rest : List (List Byte)) (s : State),
    (s.writeEntry x = none → s.writeAll (x :: rest) = (s, 0)) ∧
    (∀ u, s.writeEntry x = some u →
      s.writeAll (x :: rest) = ((u.writeAll rest).1, (u.writeAll rest).2 + 1))) ∧
  (∀ (x : List Byte) (s u : State) (c : Cursor), c = s.request.cursor → c.index < c.table.count →
    s.writeEntry x = some u →
    s.env.tables.valid c.table c.index (readFields c.table.fields x) = true ∧
    u.request.unsaved = true ∧ u.request.cursor = ⟨c.table, c.index + 1⟩ ∧
    u.request.lock = s.request.lock ∧ u.request.causes = s.request.causes ∧
    u.port = s.port ∧ u.store = s.store ∧ u.pending = s.pending ∧ u.env.mode = s.env.mode ∧
    u.env.clock = s.env.clock ∧
    (∀ (id : TableId) (i : Nat), i < id.count → (id ≠ c.table ∨ i ≠ c.index) →
      u.env.tables.entry id i = s.env.tables.entry id i) ∧
    (c.table ≠ .stationMap →
      u.env.tables.entry c.table c.index = readFields c.table.fields x)) ∧
  (∀ (x : List Byte) (s : State) (c : Cursor), c = s.request.cursor → c.index < c.table.count →
    s.env.tables.valid c.table c.index (readFields c.table.fields x) = true →
    ∃ u, s.writeEntry x = some u) ∧
  (∀ (x : List Byte) (s u : State) (c : Cursor) (t : Tables), c = s.request.cursor →
    s.writeEntry x = some u →
    s.env.tables.write c.table c.index (readFields c.table.fields x) = some t →
    ∃ w : State, w = ({ s with env := { s.env with tables := t } } : State).written s.env c.table c.index ∧
      u = (({ w with request := { w.request with
        unsaved := true, cursor := ⟨c.table,
          c.index + 1⟩ } } : State).post [.cond 27 true]).settle) ∧
  (∀ (old : Env) (i : Nat) (s : State),
    s.written old .pollList i = s.post [.fieldBus] ∧ s.written old .relays i = s ∧
    (s.line.txn = none → s.written old .fieldTiming i =
      { s with line := { s.line with rate := s.env.tables.fieldTiming.rate } }) ∧
    (s.line.txn ≠ none → s.written old .fieldTiming i = s) ∧
    s.written old .supervision i = { s with request := { s.request with
      silence := if s.env.tables.supervision.silenceTimeout = 0 then .stopped
        else .running s.env.clock.now (sec s.env.tables.supervision.silenceTimeout) } } ∧
    (∀ (j : StringIx), s.written old .strings j.val =
      { s with plant := s.plant.capacityChanged s.env j old.tables.strings[j] }) ∧
    s.written old .profile i = { s with plant := s.plant.profileWritten s.env old.tables.profile } ∧
    (∀ (a b n : Nat), (Timer.running a b).relength n = .running a n ∧
      Timer.stopped.relength n = .stopped)) ∧
  (∀ (old : Env) (i : Nat) (s : State) (e : Env) (p q : Plant) (t o : PlantTable) (due testDue : Prop), e = s.env → p = s.plant →
    t = e.tables.plant → o = old.tables.plant → s.written old .plant i = { s with plant := q } →
    due = (o.equalizeInterval ≠ 0 ∧ t.equalizeInterval ≠ 0 ∧
      o.equalizeInterval ≠ t.equalizeInterval ∧
      p.equalizeCounts e = true ∧ hours t.equalizeInterval ≤ p.charge.equalizeCount) →
    testDue = (o.testInterval ≠ 0 ∧ t.testInterval ≠ 0 ∧ o.testInterval ≠ t.testInterval ∧
      p.testCounts e = true ∧ hours t.testInterval ≤ p.test.count) →
    (due → q.charge.equalizePending = true ∧ q.charge.equalizeCount = 0) ∧
    (¬ due → q.charge.equalizePending = p.charge.equalizePending ∧ q.charge.equalizeCount =
      if o.equalizeInterval = 0 ∨ t.equalizeInterval = 0 then 0 else p.charge.equalizeCount) ∧
    q.charge = { p.charge with
      equalizePending := q.charge.equalizePending, equalizeCount := q.charge.equalizeCount
      startHold := p.charge.startHold.relength (sec t.startUpHold)
      dischargeDebounce := p.charge.dischargeDebounce.relength (sec t.debounce)
      recoveryDebounce := p.charge.recoveryDebounce.relength (sec t.debounce)
      equalizeDuration := p.charge.equalizeDuration.relength (hours t.equalizeDuration) } ∧
    q.test = { p.test with
      pending := q.test.pending
      count := if o.testInterval = 0 ∨ t.testInterval = 0 then 0 else p.test.count
      duration := p.test.duration.relength (minutes t.testDuration) } ∧
    (testDue → q.test.pending = true) ∧
    (¬ testDue → q.test.pending =
      (p.test.pending && (o.testInterval == 0 || t.testInterval != 0))) ∧
    (∃ k, (testDue → k = [Signal.scheduledTest]) ∧ (¬ testDue → k = []) ∧
      q = { p with charge := q.charge, test := q.test, agenda := p.agenda ++ k ++
        ([TimerId.startHold, .dischargeDebounce, .recoveryDebounce, .equalizeDuration,
          .testDuration].flatMap
          fun id => if (q.timer id).isOver e.now then [.expired id] else []) ++ [.busConds,
            .examine] })) ∧
  (∀ (old : Env) (i : Nat) (s : State) (e : Env) (p : Plant), e = s.env → p = s.plant →
    s.written old .loadDisconnect i = { s with plant := { p with
      ld := { p.ld with
        disconnect := p.ld.disconnect.relength (sec e.tables.loadDisconnect.disconnectDelay)
        reconnect := p.ld.reconnect.relength (sec e.tables.loadDisconnect.reconnectDelay) }
      agenda := p.agenda ++
        (if (p.ld.disconnect.relength (sec e.tables.loadDisconnect.disconnectDelay)).isOver e.now then
          [.expired .disconnect] else []) ++
        (if (p.ld.reconnect.relength (sec e.tables.loadDisconnect.reconnectDelay)).isOver e.now then
          [.expired .reconnect] else []) ++ [.ldExam] } }) ∧
  (∀ (old : Env) (i : PointIx) (s : State) (e : Env) (p : Plant) (x : Point) (d : Timer) (began : Prop), e = s.env →
    p = s.plant → x = p.alarms.points[i] →
    d = x.delay.relength (sec (if x.state = .raising then e.tables.alarms[i].raiseDelay
      else e.tables.alarms[i].clearDelay)) →
    began = (x.state = .active ∧ (e.enabled i = true ∧ e.tables.alarms[i].severity = .critical) ∧
      ¬ (old.enabled i = true ∧ old.tables.alarms[i].severity = .critical)) →
    ∃ k, (began → k = [Signal.testAbort .abortedAlarm]) ∧ (¬ began → k = []) ∧
      ∀ y : Point, y = { x with delay := d } →
      s.written old .alarms i.val = { s with plant := { p with
        alarms := { p.alarms with points := put p.alarms.points i y }
        agenda := p.agenda ++ k ++ if d.isOver e.now then [.expired (.delay i)] else [] } }) ∧
  (∀ (old : Env) (i : Nat) (s : State) (e : Env) (p q : Plant) (t o : RectTable) (due : Prop), e =
    s.env → p = s.plant →
    t = e.tables.rectifier → o = old.tables.rectifier → s.written old .rectifier i =
      { s with plant := q } →
    due = (o.rotationInterval ≠ 0 ∧ t.rotationInterval ≠ 0 ∧
      o.rotationInterval ≠ t.rotationInterval ∧
      p.rect.rotationPending = false ∧ hours t.rotationInterval ≤ p.rect.rotationCount) →
    (∀ u : RectIx, q.rect.records[u] = { p.rect.records[u] with
      follow := p.rect.records[u].follow.relength (sec t.followTime)
      recovery := p.rect.records[u].recovery.relength (sec t.recoveryTime) }) ∧
    q.rect = { p.rect with
      records := q.rect.records
      rotationCount := if o.rotationInterval = 0 ∨ t.rotationInterval =
        0 then 0 else p.rect.rotationCount
      rotationPending := q.rect.rotationPending
      shed := p.rect.shed.relength (sec t.shedDelay)
      stagger := p.rect.stagger.relength
        (sec (if p.rect.staggerMains then t.staggerMains else t.staggerGenerator)) } ∧
    (due → q.rect.rotationPending = true) ∧ (¬ due → q.rect.rotationPending =
      p.rect.rotationPending) ∧
    (∃ k l, (due → k = [Signal.rotationExam]) ∧ (¬ due → k = []) ∧
      q = { p with rect := q.rect, agenda := p.agenda ++ k ++ l ++ [.floor] } ∧
      ∀ g, g ∈ l ↔ ∃ id, g = .expired id ∧ (q.timer id).isOver e.now = true ∧
        (id = .shed ∨ id = .stagger ∨ ∃ u, id = .follow u ∨ id = .recovery u))) ∧
  (∀ (old : Env) (i : Nat) (s : State) (e : Env) (p m q : Plant) (t o : GensetTable) (due : Prop),
    e = s.env → p = s.plant →
    t = e.tables.genset → o = old.tables.genset → s.written old .genset i = { s with plant := q } →
    (o.fitted = t.fitted → m = p) →
    (o.fitted = true → t.fitted = false → m = (({ p with gen := { p.gen with
      reasons := ⟨false, false, false, false, false⟩, lowVoltage := .stopped, dischargeTime :=
        .stopped
      exerciseCount := 0, exerciseDue :=
        false } } : Plant).offerEngine e .stop).enterRun e .disabled) →
    (o.fitted = false → t.fitted = true → m = ({ p with gen := { p.gen with
      attempts := 0, exerciseCount := 0 } } : Plant).enterRun e .off) →
    due = (o.exerciseInterval ≠ 0 ∧ t.exerciseInterval ≠ 0 ∧
      o.exerciseInterval ≠ t.exerciseInterval ∧
      m.exerciseCounts e = true ∧ hours t.exerciseInterval ≤ m.gen.exerciseCount) →
    q.gen = { m.gen with
      exerciseCount := if o.exerciseInterval = 0 ∨ t.exerciseInterval =
        0 then 0 else m.gen.exerciseCount
      exerciseDue := q.gen.exerciseDue
      crank := m.gen.crank.relength (sec t.crankTime), rest := m.gen.rest.relength (sec t.rest)
      warmup := m.gen.warmup.relength (sec t.warmup)
      warmupSecond := m.gen.warmupSecond.relength (sec t.warmup)
      cooldown := m.gen.cooldown.relength (sec t.cooldown)
      stopConfirm := m.gen.stopConfirm.relength (sec t.stopConfirm)
      retry := if t.retryInterval = 0 then .stopped else m.gen.retry.relength (sec t.retryInterval)
      dischargeTime := if t.maxDischarge = 0 then .stopped
        else m.gen.dischargeTime.relength (hours t.maxDischarge) } ∧
    (due → q.gen.exerciseDue = true) ∧
    (¬ due → q.gen.exerciseDue =
      (m.gen.exerciseDue && (o.exerciseInterval == 0 || t.exerciseInterval != 0))) ∧
    (∃ k l j, (due → k = [Signal.exerciseCheck]) ∧ (¬ due → k = []) ∧
      l = ([TimerId.crank, .rest, .warmup, .warmupSecond, .cooldown, .stopConfirm, .retry,
        .dischargeTime].flatMap
        fun id => if (q.timer id).isOver e.now then [Signal.expired id] else []) ∧
      (∀ t₀ run, m.gen.runStart = some t₀ → run = e.now - t₀ →
        (sec t.exerciseDuration ≤ run → run < sec o.exerciseDuration →
          j = [Signal.exerciseReached]) ∧
        (run < sec t.exerciseDuration ∨ sec o.exerciseDuration ≤ run → j = [])) ∧
      (m.gen.runStart = none → j = []) ∧
      q = { m with gen := q.gen, agenda := m.agenda ++ k ++ l ++ j ++
        [.actOnReasons, .workAllowance, .fuel, .reasonExam, .busConds] })) ∧
  (∀ (t : Tables) (id : TableId) (i : Nat) (vs : List Int),
    (fieldsOk (id.fieldsAt i) vs = false → t.write id i vs = none) ∧
    (∀ x : Profile, id = .profile → vs = x.toInts → fieldsOk Profile.fields vs = true →
      (t.write id i vs ≠ none ↔
        x.busMin < x.busMax ∧ x.clampLow < x.clampHigh ∧ x.boostCell ≤ x.equalizeCell)) ∧
    (∀ x : RectTable, id = .rectifier → vs = x.toInts → fieldsOk RectTable.fields vs = true →
      (t.write id i vs ≠ none ↔ x.shareLow < x.shareHigh)) ∧
    (∀ x : GensetTable, id = .genset → vs = x.toInts → fieldsOk GensetTable.fields vs = true →
      (t.write id i vs ≠ none ↔ x.startSoc < x.stopSoc ∧ x.fuelCritical < x.fuelLow)) ∧
    (∀ x : LdTable, id = .loadDisconnect → vs = x.toInts → fieldsOk LdTable.fields vs = true →
      (t.write id i vs ≠ none ↔ x.disconnectVoltage < x.reconnectVoltage)) ∧
    (∀ x : PollSlot, id = .pollList → vs = x.toInts → fieldsOk PollSlot.fields vs = true → i < 24 →
      (t.write id i vs ≠ none ↔ x.station = 0 ∨
        ∀ j : Fin 24, j.val ≠ i → t.pollList[j].station ≠ x.station)) ∧
    (∀ x : InputEntry, id = .inputs → vs = x.toInts → fieldsOk InputEntry.fields vs = true → i < 8 →
      (t.write id i vs ≠ none ↔
        x.function ≠ .mainsSense ∧ x.function ≠ .genFeedback ∧ x.function ≠ .ldFeedback ∨
        ∀ j : InputIx, j.val ≠ i → t.inputs[j].function ≠ x.function))) ∧
  (∀ (t : Tables) (id : TableId) (i : Nat) (vs : List Int), i < id.count →
    id = .fieldTiming ∨ id = .strings ∨ id = .plant ∨ id = .relays ∨ id = .alarms ∨
      id = .supervision →
    fieldsOk (id.fieldsAt i) vs = true → t.write id i vs ≠ none)

/-- 02 R21: a STATION_MAP entry as it is stored: roles without units keep no unit index, and entry 32 keeps
its policy alone, whatever bytes stand in its other fields. Entry 0 takes no write, entry 31 no role and no
mirror, no two of stations 1 to 30 hold the same unit, and every entry that passes these tests is taken. 02
R22: a change of role or unit index takes the station's orders from the queue, starts its link record anew,
empties its mirror slot, marks its transaction, and gives the old unit ABSENT and the new one DISCOVERING; a
change of mirror to no empties the slot. What a marked transaction does at its end beyond R22, and what the
hand-ons' order is, is the model's choice (log entries 21 and 9). A policy outside 0 to 2, and for every
entry but 32 a role outside 0 to 4 or a mirror outside 0 and 1, is refused. That a station's orders are
removed before the notices act is the model's choice (log entry 67). -/
def Obligations.StationMapEntriesAreChecked : Prop :=
  (∀ (t : Tables) (i : Nat) (role unit policy mirror : Int),
    (policy < 0 ∨ 2 < policy → t.write .stationMap i [role, unit, policy, mirror] = none) ∧
    (i ≠ 32 → role < 0 ∨ 4 < role ∨ mirror < 0 ∨ 1 < mirror →
      t.write .stationMap i [role, unit, policy, mirror] = none)) ∧
  (∀ (t : Tables) (i : Nat) (role unit policy mirror : Int), 0 ≤ policy → policy ≤ 2 → 0 ≤ unit →
    unit ≤ 255 →
    0 ≤ role → role ≤ 255 → 0 ≤ mirror → mirror ≤ 255 →
    i = 32 ∨ (i = 31 ∧ role = 0 ∧ mirror = 0) ∨ (1 ≤ i ∧ i ≤ 30 ∧ mirror ≤ 1 ∧ (role = 0 ∨
      role = 4)) ∨
      (1 ≤ i ∧ i ≤ 30 ∧ mirror ≤ 1 ∧ 1 ≤ role ∧ role ≤ 3 ∧ unit < (Role.ofInt role).units ∧
        ∀ j : Fin 33, 1 ≤ j.val → j.val ≤ 30 → j.val ≠ i →
          ¬ (t.stationMap[j].role = Role.ofInt role ∧ (t.stationMap[j].unit : Int) = unit)) →
    ∃ u, t.write .stationMap i [role, unit, policy, mirror] = some u) ∧
  (∀ (old : Env) (st : Station) (s : State) (x y : StationEntry) (left : List Order), 1 ≤ st.val →
    st.val ≤ 30 →
    x = old.entry st → y = s.env.entry st → left =
      s.plant.queue.filter (fun o => !(o.station == st)) →
    (x.role ≠ y.role ∨ x.unit ≠ y.unit → s.written old .stationMap st.val = { s with
      plant := { s.plant with
        queue := left
        links := put s.plant.links st ⟨if y.role = .unused then .unmapped else .discovering, 0, 0,
          none⟩
        agenda := s.plant.agenda ++
          (if s.plant.queue.any Order.isReset && !left.any Order.isReset then [.resetEnded] else []) ++
          (x.notify .absent ++ y.notify .discovering ++
          (if x.role = .rectifier then [.workSource, .indication] else []) ++
          (if y.role = .rectifier then [.workSource, .indication] else [])) ++ [.fieldBus] }
      line := { s.line with
        mirrors := put s.line.mirrors st none
        txn := s.line.txn.map fun z => if z.station =
          st then { z with voided := true } else z } }) ∧
    (x.role = y.role → x.unit = y.unit → s.written old .stationMap st.val = { s with
      plant := { s.plant with agenda := s.plant.agenda ++ [.fieldBus] }
      line := { s.line with
        mirrors := if x.mirror = true ∧ y.mirror = false then put s.line.mirrors st none
          else s.line.mirrors } }) ∧
    (∀ n, (x.role = .unused ∨ x.role = .foreign → x.notify n = []) ∧
      (x.role = .genset → x.notify n = [.gensetNotice n]) ∧
      (∀ i : RectIx, x.role = .rectifier → x.unit = i.val → x.notify n = [.rectNotice i n]) ∧
      (∀ i : StringIx, x.role = .stringMonitor → x.unit = i.val →
        x.notify n = [.stringNotice i n]))) ∧
  ∀ (t : Tables) (i : Nat) (role unit policy mirror : Int) (u : Tables),
    t.write .stationMap i [role, unit, policy, mirror] = some u →
    i ≠ 0 ∧ (i = 31 → role = 0 ∧ mirror = 0) ∧
    (1 ≤ i → i ≤ 30 → 1 ≤ role → role ≤ 3 →
      unit < (Role.ofInt role).units ∧
      ∀ j : Fin 33, 1 ≤ j.val → j.val ≤ 30 → j.val ≠ i →
        ¬ (t.stationMap[j].role = Role.ofInt role ∧ (t.stationMap[j].unit : Int) = unit)) ∧
    u.entry .stationMap i =
      if i = 32 then [0, 0, policy, 0]
      else if role = 0 ∨ role = 4 then [role, 0, policy, mirror]
      else [role, unit, policy, mirror]

/-- 03 R55: SAVE_TABLES begins a save of the tables in force, and is answered BUSY while one is under way;
when the write ends the image is checked as read back, and the store state and tables-unsaved follow. The
check is R54's alone: an image that passes it is VALID whatever its entries hold; that one of another length
than an image has fails it is the model's choice (log entry 27). An image passes exactly when it has the
entries' length and two bytes more, and those two are the CRC of the rest. That STORE_INVALID is handed
before TABLES_UNSAVED is the model's choice (log entry 57). -/
def Obligations.SavesAreTakenAndChecked : Prop :=
  (∀ (q : Req) (s : State), s.takes q → q.params = [0x11] →
    (s.store.state ≠ .saving → exec (.saveTables q) s = .next
      (({ s.taken 0x07 q with store := ⟨.saving, s.env.tables.image⟩ }).answered 0x07 q .ok [0x11])) ∧
    (s.store.state = .saving → exec (.saveTables q) s = .next
      ((s.taken 0x07 q).answered 0x07 q .busy [0x11]))) ∧
  (∀ (t : Nat) (damage : List Byte) (s : State) (image : List Byte), s.store.state = .saving →
    image = damaged s.store.image damage →
    ((loadImage image).isSome = true → exec (.saveComplete t damage) s = .next
      ((({ s.bringTo t with
          store := ⟨.valid, image⟩, request := { s.request with unsaved := false } }).post
        [.cond 26 false, .cond 27 false]).finish)) ∧
    (loadImage image = none → exec (.saveComplete t damage) s = .next
      ((({ s.bringTo t with
          store := ⟨.invalid, image⟩, request := { s.request with unsaved := true } }).post
        [.cond 26 true, .cond 27 true]).finish))) ∧
  (∀ image : List Byte, (loadImage image).isSome = true ↔
    image.length = (TableId.all.map fun id => id.count * id.entrySize).sum + 2 ∧
      beVal (image.drop (image.length - 2)) = crc16 (image.take (image.length - 2)))

/-- 03 R54 and R56: an image saved undamaged loads as the tables that were saved, and an image with one
damaged check byte loads as nothing. Of 762 entry bytes, the sum of the thirteen tables, and two check
bytes, an image loads exactly when the check is the CRC of the entries; that one of another length does not
is the model's choice (log entry 27). -/
def Obligations.ASavedImageLoadsAsItsTables : Prop :=
  (∀ t : Tables, t.wf = true → loadImage t.image = some t) ∧
  (∀ (t : Tables) (hi lo : Byte), t.wf = true → be 2 (crc16 t.bytes) ≠ [hi, lo] →
    loadImage (t.bytes ++ [hi, lo]) = none) ∧
  (∀ (entries : List Byte) (hi lo : Byte), (loadImage (entries ++ [hi, lo])).isSome = true ↔
    entries.length = 762 ∧ hi.toNat * 256 + lo.toNat = crc16 entries)

/-! ### Commands -/

/-- 05 R99: FORCE_BOOST. In FLOAT without over-temperature it is answered OK and the plant enters BOOST at
once, by the change of plant state that every other entry takes, whatever the weakest SOC, the boost
inhibit, the mode and the store state; in every other case it is answered REFUSED_STATE. -/
def Obligations.ForceBoostEntersBoost : Prop :=
  ∀ (q : Req) (s u : State), s.takes q → q.params = [0x01] → u = s.taken 0x07 q →
    (u.plant.charge.state = .float → u.plant.charge.overTemp = false →
      exec (.forceBoost q) s =
        .next ((u.withPlant (u.plant.changePlant u.env .boost)).answered 0x07 q .ok [0x01])) ∧
    (u.plant.charge.state = .float → u.plant.charge.overTemp = true →
      exec (.forceBoost q) s = .next (u.answered 0x07 q .refusedState [0x01])) ∧
    (u.plant.charge.state ≠ .float →
      exec (.forceBoost q) s = .next (u.answered 0x07 q .refusedState [0x01]))

/-- 06 R117 with the conditions of R116: START_TEST. When they hold it is answered OK and a test of cause
COMMAND begins at once, by the entry that a scheduled test takes too; otherwise it is answered REFUSED_STATE
and nothing changes. 06 R119: the entry begins the duration timer, stamps the test, sets its seconds and
charge removed to 0 and the minimum bus voltage to the present one, clears a pending test and the count,
ends TEST_FAILED, and only then takes the plant to TEST; the setpoint that TEST gives is the test voltage.
-/
def Obligations.StartTestNeedsItsConditions : Prop :=
  (∀ (e : Env) (cause : TestCause) (p : Plant), p.testBegin e cause =
    (({ p with test := { p.test with
        outcome := .running, cause := cause, stamp := e.stamp, started := e.now, seconds := 0,
          removed := 0
        minBus := p.battery.busVoltage, failed := false, pending := false, count := 0
        threshold := e.tables.profile.cells * e.tables.profile.testFailCell
        duration := .running e.now (minutes e.tables.plant.testDuration) } } : Plant).setCond e
      17 false).changePlant e .test) ∧
  (∀ (e : Env) (cause : TestCause) (p : Plant),
    (p.testBegin e cause).test.voltage = (p.testBegin e cause).charge.setpoint ∧
    (p.testBegin e cause).test.outcome = .running ∧ (p.testBegin e cause).charge.state = .test) ∧
  (∀ (q : Req) (s u : State), s.takes q → q.params = [0x03] → u = s.taken 0x07 q →
    (u.plant.testMayStart u.env = true →
      exec (.startTest q) s =
        .next ((u.withPlant (u.plant.testBegin u.env .command)).answered 0x07 q .ok [0x03]) ∧
      (u.plant.testBegin u.env .command).test.pending = false) ∧
    (u.plant.testMayStart u.env = false →
      exec (.startTest q) s = .next (u.answered 0x07 q .refusedState [0x03]))) ∧
  ∀ (e : Env) (p : Plant), p.testMayStart e = true ↔
    p.charge.state = .float ∧ e.mode = .auto ∧ p.charge.source = .mains ∧ p.gen.run = .off ∧
    (∃ i : StringIx, p.strings[i].status = .reporting) ∧
    (∀ i : StringIx, p.strings[i].status = .reporting → p.strings[i].estimated = false) ∧
    e.tables.plant.testMinSoc ≤ p.battery.weakestSoc ∧
    (∀ i : PointIx, (e.tables.alarms[i].enable = true ∨ i.val = 0 ∨ i.val = 3 ∨ i.val = 12) →
      e.tables.alarms[i].severity = .critical → p.alarms.points[i].state ≠ .active) ∧
    p.ld.state = .connected

/-- 04 R81 and R82: RESYNC_FULL. In FLOAT it is answered OK: each REPORTING string takes its lowest
shortfall, residue 0, ESTIMATED clear and SOC 100 and keeps its t_prev, no other string changes, and the
recomputation follows. In every other plant state it is answered REFUSED_STATE and nothing changes. -/
def Obligations.ResyncFullSetsReportingStringsFull : Prop :=
  ∀ (q : Req) (s u : State), s.takes q → q.params = [0x05] → u = s.taken 0x07 q →
    (u.plant.charge.state = .float → ∃ v : Vector StringRec 4,
      exec (.resyncFull q) s =
        .next ((u.withPlant (({ u.plant with strings := v }).post [.recompute])).answered
          0x07 q .ok [0x05]) ∧
      ∀ i : StringIx,
        (u.plant.strings[i].status = .reporting →
          v[i] = { u.plant.strings[i] with
            shortfall := -((u.env.tables.strings[i].capacity * 10 * u.env.tables.profile.overcharge : Nat) : Int)
            residue := 0, estimated := false
            soc := if u.env.tables.strings[i].capacity = 0 then 0 else 100 }) ∧
        (u.plant.strings[i].status ≠ .reporting → v[i] = u.plant.strings[i])) ∧
    (u.plant.charge.state ≠ .float →
      exec (.resyncFull q) s = .next (u.answered 0x07 q .refusedState [0x05]))

/-- 05 R103 and 06 R122: START_EQUALIZE makes an equalize pending and has the controller examine, and
STOP_TEST ends a running test with ABORTED_COMMAND or cancels a pending one; otherwise they are answered
REFUSED_STATE. That START_EQUALIZE leaves the equalize count as it is, is the model's reading (log entry
13). -/
def Obligations.StartEqualizeAndStopTest : Prop :=
  ∀ (q : Req) (s u : State), s.takes q → u = s.taken 0x07 q →
    (q.params = [0x02] →
      (u.plant.charge.state = .float → u.plant.charge.overTemp = false →
        exec (.startEqualize q) s = .next ((u.withPlant
          (({ u.plant with charge := { u.plant.charge with equalizePending := true } }).post
            [.examine])).answered 0x07 q .ok [0x02])) ∧
      (u.plant.charge.state ≠ .float ∨ u.plant.charge.overTemp = true →
        exec (.startEqualize q) s = .next (u.answered 0x07 q .refusedState [0x02]))) ∧
    (q.params = [0x04] →
      (u.plant.charge.state = .test →
        exec (.stopTest q) s = .next ((u.withPlant (u.plant.testEnd u.env .abortedCommand)).answered
          0x07 q .ok [0x04])) ∧
      (u.plant.charge.state ≠ .test → u.plant.test.pending = true →
        exec (.stopTest q) s = .next ((u.withPlant
          { u.plant with test := { u.plant.test with pending := false, count := 0 } }).answered
            0x07 q .ok [0x04])) ∧
      (u.plant.charge.state ≠ .test → u.plant.test.pending = false →
        exec (.stopTest q) s = .next (u.answered 0x07 q .refusedState [0x04])))

/-- 08 R163, R164 and R171: GEN_START adds MANUAL to the start reasons but in DISABLED and LOCKED_OUT;
GEN_STOP removes MANUAL and EXERCISE; GEN_RESET takes FAILED and LOCKED_OUT to OFF with the failure flags
clear and, in controlled operation, ENGINE RESET offered and outstanding. -/
def Obligations.GeneratorCommands : Prop :=
  ∀ (q : Req) (s u : State), s.takes q → u = s.taken 0x07 q →
    (q.params = [0x06] →
      (u.plant.gen.run ≠ .disabled → u.plant.gen.run ≠ .lockedOut →
        exec (.genStart q) s = .next ((u.withPlant (({ u.plant with
          gen := { u.plant.gen with reasons := { u.plant.gen.reasons with manual := true } } }).post
            [.actOnReasons])).answered 0x07 q .ok [0x06])) ∧
      (u.plant.gen.run = .disabled ∨ u.plant.gen.run = .lockedOut →
        exec (.genStart q) s = .next (u.answered 0x07 q .refusedState [0x06]))) ∧
    (q.params = [0x07] →
      (u.plant.gen.reasons.manual = false → u.plant.gen.reasons.exercise = false →
        exec (.genStop q) s = .next (u.answered 0x07 q .ok [0x07])) ∧
      (u.plant.gen.reasons.manual = true → u.plant.gen.reasons.exercise = false →
        exec (.genStop q) s = .next ((u.withPlant (({ u.plant with
          gen := { u.plant.gen with reasons := { u.plant.gen.reasons with manual := false } } }).post
            [.actOnReasons])).answered 0x07 q .ok [0x07])) ∧
      (u.plant.gen.reasons.exercise = true →
        exec (.genStop q) s = .next ((u.withPlant (({ u.plant with
          gen := { u.plant.gen with
            exerciseDue := false, exerciseCount := 0
            reasons := { u.plant.gen.reasons with manual := false, exercise := false } } }).post
            [.actOnReasons])).answered 0x07 q .ok [0x07]))) ∧
    (q.params = [0x08] →
      (u.plant.gen.run = .failed ∨ u.plant.gen.run = .lockedOut → ∀ g : GenUnit,
        g = { u.plant.gen with
          attempts := 0, retryDue := false, startFailed := false, engineFailure := false
          failedSinceRun := false, resetOutstanding := u.plant.gen.status == .reporting } →
        exec (.genReset q) s = .next ((u.withPlant
          ((({ u.plant with gen := g }).offerEngine u.env .reset).enterRun u.env .off)).answered
            0x07 q .ok [0x08])) ∧
      (u.plant.gen.run ≠ .failed → u.plant.gen.run ≠ .lockedOut →
        exec (.genReset q) s = .next (u.answered 0x07 q .refusedState [0x08])))

/-- 07 R141 and R149: RECT_LOCKOUT, RECT_RESTORE and ROTATE_NOW, case by case. 07 R147 to R149: a pending
rotation starts with the first STANDBY record when its conditions hold; its SET_STATE ACTIVE, confirmed,
commits it: the old head of the duty list goes to STANDBY and to the tail, and the count restarts; the order
dropped, the incoming record goes back to STANDBY. That the target is applied again at the commit or the
drop when another record has left the active set is the model's reading (log entry 37). -/
def Obligations.RectifierCommands : Prop :=
  (∀ (q : Req) (s u : State) (x : RectIx), s.takes q → u = s.taken 0x07 q →
    (q.params = [0x09, BitVec.ofNat 8 x.val] →
      (u.plant.rect.status x = .absent ∨ u.plant.rect.status x = .discovering →
        exec (.rectLockout q) s = .next (u.answered 0x07 q .refusedState [0x09])) ∧
      (u.plant.rect.status x = .lockedOut →
        exec (.rectLockout q) s = .next (u.answered 0x07 q .ok [0x09])) ∧
      ((u.plant.rect.status x).onDuty = true → u.plant.rect.duty.length = 1 →
        exec (.rectLockout q) s = .next (u.answered 0x07 q .refusedState [0x09])) ∧
      (((u.plant.rect.status x).onDuty = true ∧ u.plant.rect.duty.length ≠ 1) ∨
          u.plant.rect.status x = .faulted ∨ u.plant.rect.status x = .lost →
        exec (.rectLockout q) s = .next ((u.withPlant
          (((({ u.plant with rect := (u.plant.rect.joinOut x .lockedOut).endRotationOf x }).offerState
            u.env x false)).post (leftReaders (u.plant.rect.status x)))).answered
              0x07 q .ok [0x09]))) ∧
    (q.params = [0x0A, BitVec.ofNat 8 x.val] → ∀ r : RectUnit,
      r = u.plant.rect.modify x (fun y => { y with history := [], lastCause := .none }) →
      (u.plant.rect.status x = .lockedOut → u.plant.linkOf (u.env.rectStation x) = .lost →
        exec (.rectRestore q) s = .next ((u.withPlant
          (({ u.plant with rect := r.joinOut x .lost }).post [.rectConds])).answered
            0x07 q .ok [0x0A])) ∧
      (u.plant.rect.status x = .lockedOut → u.plant.linkOf (u.env.rectStation x) ≠ .lost →
        exec (.rectRestore q) s = .next ((u.withPlant
          (({ u.plant with rect := (r.joinDuty x .standby).modify x RectRec.stopTimers }).post
            [.floor, .rectConds])).answered 0x07 q .ok [0x0A])) ∧
      (u.plant.rect.status x ≠ .lockedOut →
        exec (.rectRestore q) s = .next (u.answered 0x07 q .refusedState [0x0A])))) ∧
  (∀ (q : Req) (s u : State), s.takes q → q.params = [0x0B] → u = s.taken 0x07 q →
    (u.plant.charge.state ≠ .startUp → u.env.mode = .auto → u.plant.rect.inFlight = none →
      u.plant.rect.standbys ≠ [] →
      exec (.rotateNow q) s = .next ((u.withPlant (({ u.plant with
        rect := { u.plant.rect with rotationPending := true } }).post [.rotationExam])).answered
          0x07 q .ok [0x0B])) ∧
    (u.plant.charge.state = .startUp ∨ u.env.mode = .manual ∨ u.plant.rect.inFlight ≠ none ∨
      u.plant.rect.standbys = [] →
      exec (.rotateNow q) s = .next (u.answered 0x07 q .refusedState [0x0B]))) ∧
  (∀ (e : Env) (p : Plant) (quiet : Prop), quiet = (p.charge.state = .float ∧ e.mode = .auto ∧
      p.charge.source = .mains ∧ p.rect.walkIn = [] ∧ p.gen.run = .off ∧ p.rect.inFlight = none) →
    (p.rect.rotationPending = true → quiet → ∀ (x : RectIx) (rest : List RectIx),
      p.rect.duty.filter (fun u => p.rect.status u == .standby) = x :: rest →
      p.handle e .rotationExam =
        ({ p with rect := { p.rect with inFlight := some x } } : Plant).becomeActive e x) ∧
    (p.rect.rotationPending = false ∨ ¬ quiet ∨
        p.rect.duty.filter (fun u => p.rect.status u == .standby) = [] →
      p.handle e .rotationExam = p)) ∧
  (∀ (e : Env) (p u : Plant) (x : RectIx), p.rect.inFlight = some x →
    (p.rect.status x).takesReports = true →
    u = { p with rect := { p.rect with
      records := put p.rect.records x { p.rect.records[x] with commanded := some true, follow := .stopped }
      inFlight := none, rotationPending := false, rotationCount := 0 } } →
    (p.rect.duty = [] ∨ p.rect.duty.head? = some x → p.rectConfirmed e x (.setState true) = u) ∧
    (∀ h rest, p.rect.duty = h :: rest → h ≠ x → ∀ v : Plant,
      v = ((({ u with rect := { (u.rect.unqueue h).setStatus h .standby with duty := rest ++ [h] } } : Plant).offerState e
        h false).post [.busVoltage, .compose []]) →
      p.rectConfirmed e x (.setState true) =
        if v.canOrder e = true ∧
          v.rect.activeSet.length < v.rect.target then v.applyTarget e v.rect.target
        else v)) ∧
  (∀ (e : Env) (p : Plant) (x : RectIx) (b : OrderBody),
    (p.rect.inFlight = some x → (p.rect.status x).takesReports = true → ∀ v : Plant,
      v = ((({ p with rect := { (p.rect.unqueue x).setStatus x .standby with inFlight := none } } : Plant).offerState
        e x false).post [.busVoltage, .compose []]) →
      p.rectDropped e x (.setState true) =
        if v.canOrder e = true ∧
          v.rect.activeSet.length < v.rect.target then v.applyTarget e v.rect.target
        else v) ∧
    (p.rect.inFlight ≠ some x ∨ b ≠ .setState true ∨ p.rect.status x = .absent ∨
      p.rect.status x = .discovering → p.rectDropped e x b = p))

/-- 03 R58: MODE_MANUAL in AUTO and MODE_AUTO in MANUAL change the mode and hand it on: in MANUAL the queue
keeps its ENGINE orders alone, an order on the line is not retried, a test ends with ABORTED_COMMAND and the
trim is 0. In the mode already held they are answered OK and change nothing. 07 R153: MANUAL ends the
walk-in by each record's commanded state, the stagger, the shed wait, a rotation and what was last composed;
AUTO outside START_UP works the target out, moves the active set to the head of the duty list and offers
every duty record its SET_STATE and SET_OUTPUT. That it offers those that already hold their state too is
the model's reading (log entry 35). A relayed SET_STATE, confirmed, sets the commanded state, and in MANUAL
the status. 05 R108, R111: at a change of mode the setpoint is worked out anew, in MANUAL after the queue is
cleared, a running test is ended and the trim is 0, and is handed on. That it is handed before the mode
reaches the rectifier duty unit, at a return to AUTO before the records are re-imposed, is the model's
choice (log entry 52). So are the duty order of the SET_STATE offers and that MANUAL_MODE is handed last
(log entries 58 and 65). So is that the head's SET_OUTPUT follows the SET_STATE offers (log entry 66). -/
def Obligations.ModeCommands : Prop :=
  (∀ (q : Req) (s u : State), s.takes q → u = s.taken 0x07 q →
    (q.params = [0x0C] →
      (s.env.mode = .auto → exec (.modeManual q) s =
        .next (u.toManual.answered 0x07 q .ok [0x0C])) ∧
      (s.env.mode = .manual → exec (.modeManual q) s = .next (u.answered 0x07 q .ok [0x0C]))) ∧
    (q.params = [0x0D] →
      (s.env.mode = .manual → exec (.modeAuto q) s = .next (u.toAuto.answered 0x07 q .ok [0x0D])) ∧
      (s.env.mode = .auto → exec (.modeAuto q) s = .next (u.answered 0x07 q .ok [0x0D])))) ∧
  (∀ u : State,
    u.toManual.env = { u.env with mode := .manual } ∧
    u.toManual.plant.queue = u.plant.queue.filter (fun o => o.body.isEngine) ∧
    (u.plant.test.outcome = .running → u.toManual.plant.test.outcome = .abortedCommand ∧
      u.toManual.plant.charge.state = .float) ∧
    u.toManual.plant.charge.trim = 0 ∧
    (∀ x o, u.line.txn = some x → x.carried = .order o → o.body.isEngine = false →
      u.toManual.line.txn = some { x with noRetry := true }) ∧
    [Signal.rectMode, Signal.cond 28 true].Sublist u.toManual.plant.agenda) ∧
  (∀ u : State,
    u.toAuto.env = { u.env with mode := .auto } ∧ u.toAuto.plant.queue = u.plant.queue ∧
    u.toAuto.line = u.line ∧ u.toAuto.plant.charge.trim = u.plant.charge.trim ∧
    [Signal.rectMode, Signal.cond 28 false].Sublist u.toAuto.plant.agenda) ∧
  (∀ (e : Env) (p q : Plant), e.mode = .manual → q = p.handle e .rectMode →
    (∀ u : RectIx, q.rect.records[u] = { p.rect.records[u] with
      composed := none
      status := if p.rect.status u = .walkingIn then
          if p.rect.records[u].commanded = some true then .active else .standby
        else p.rect.status u }) ∧
    q = { p with
      rect := { p.rect with
        records := q.rect.records, walkIn := [], stagger := .stopped, shed := .stopped, shedDue :=
          false
        inFlight := none
        target := if p.rect.inFlight.isSome then (p.rect.duty.filter fun u =>
          q.rect.status u == .active || q.rect.status u == .walkingIn).length else p.rect.target }
      agenda := p.agenda ++ [.busVoltage, .rectConds] }) ∧
  (∀ (e : Env) (p : Plant), e.mode = .auto → p.charge.state = .startUp → p.handle e .rectMode = p) ∧
  (∀ (e : Env) (p a b c d : Plant) (n : Nat), e.mode = .auto → p.charge.state ≠ .startUp →
    (a, n) = ({ p with rect := { p.rect with shed := .stopped, shedDue := false } } : Plant).workTarget e →
    (∀ u ∈ a.rect.duty.take n, a.rect.status u = .active → b = a) →
    ((∀ u ∈ a.rect.duty.take n, a.rect.status u ≠ .active) → n = 0 ∨ a.rect.duty = [] → b = a) →
    ((∀ u ∈ a.rect.duty.take n, a.rect.status u ≠ .active) → n ≠ 0 →
      ∀ u rest, a.rect.duty = u :: rest →
      b = a.becomeActive e u) →
    c = ((a.rect.duty.take n).filter fun u => b.rect.status u != .active).foldl (Plant.joinWalkIn e) b →
    d = ((a.rect.duty.drop n).filter fun u =>
      c.rect.status u == .active || c.rect.status u == .walkingIn).foldl (Plant.demote e) c →
    p.handle e .rectMode = ((d.rect.duty.foldl (fun v u => match v.rect.status u with
        | .active => v.offerState e u true
        | .standby | .walkingIn => v.offerState e u false
        | _ => v) ({ d with rect := { d.rect with target := n } } : Plant)).post
      [.busVoltage, .compose (indices 12), .rectConds])) ∧
  (∀ (e : Env) (u : RectIx) (b : Bool) (p m : Plant),
    m = { p with rect := { p.rect with records := put p.rect.records u { p.rect.records[u] with
      commanded := some b
      follow := if p.rect.records[u].commanded =
        some b then p.rect.records[u].follow else .stopped } } } →
    (e.mode = .manual → p.rect.status u = .active ∨ p.rect.status u = .standby →
      p.handle e (.snooped u b) = { m with
        rect := { m.rect with records := put m.rect.records u { m.rect.records[u] with
          status := if b then .active else .standby } }
        agenda := p.agenda ++ [.busVoltage, .rectConds] }) ∧
    (e.mode = .auto ∨ (p.rect.status u ≠ .active ∧ p.rect.status u ≠ .standby) →
      p.handle e (.snooped u b) = m)) ∧
  (∀ (u v : State) (e : Env) (c : Charge), v = u.toAuto → e = { u.env with mode := .auto } →
    c = u.plant.charge.setpointFrom e.tables.profile u.plant.battery.tComp →
    v = { u with
      env := e
      plant := { u.plant with
        charge := c
        test := if u.plant.charge.state = .test ∧ u.plant.test.outcome = .running then
          { u.plant.test with voltage := c.setpoint } else u.plant.test
        agenda := u.plant.agenda ++
          [.compose [], .workAllowance, .chargeConds, .rectMode, .cond 28 false] } }) ∧
  (∀ (u v : State) (e : Env) (n : Plant) (c : Charge), v = u.toManual →
    e = { u.env with mode := .manual } →
    n = ({ u.plant with
      queue := u.plant.queue.filter (fun o => o.body.isEngine) } : Plant).handle e
        (.testAbort .abortedCommand) →
    c = ({ n.charge with trim := 0 } : Charge).setpointFrom e.tables.profile n.battery.tComp →
    v = { u with
      env := e, line := { u.line with txn := v.line.txn }
      plant := { n with
        charge := c
        agenda := n.agenda ++ [.compose [], .workAllowance, .chargeConds, .rectMode, .cond 28 true] } } ∧
    (u.line.txn = none → v.line.txn = none) ∧
    (∀ x, u.line.txn = some x → v.line.txn = some { x with
      noRetry := x.noRetry || (match x.carried with
        | .order o => !o.body.isEngine
        | _ => false) }))

/-- 10 R189 and R195: ACK acts on the points it selects in ascending order and answers on how many it took
effect; RELEASE_CAPTURE empties the capture. Turn by turn: with no point left the count is 0, and each point
that an acknowledgement takes effect on adds one; a point in ACTIVE or CLEARING not yet acknowledged is
marked, one in HELD is marked and cleared, and an enabled one writes an ACK entry in the history. -/
def Obligations.AlarmCommands : Prop :=
  (∀ (q : Req) (s u : State) (args : List Byte), s.takes q → u = s.taken 0x07 q →
    q.params = 0x0E :: args → args.length = 0 ∨ args.length = 5 →
    ∀ (sel : List PointIx) (p : Plant) (n : Nat),
      sel = (indices 40).filter (fun i => args.isEmpty || (beVal args).testBit i.val) →
      Plant.ackPoints u.env sel u.plant = (p, n) →
      n ≤ 40 ∧
      exec (.ack q) s = .next ((u.withPlant p).answered 0x07 q .ok [0x0E, BitVec.ofNat 8 n])) ∧
  (∀ (e : Env) (i : PointIx) (p : Plant),
    (p.alarms.points[i].state = .active ∨ p.alarms.points[i].state = .clearing →
      (p.alarms.points[i].acked = true → p.ackPoint e i = (p, false)) ∧
      (p.alarms.points[i].acked = false → (p.ackPoint e i).2 = true ∧
        (p.ackPoint e i).1.alarms.points[i] = { p.alarms.points[i] with acked := true })) ∧
    (p.alarms.points[i].state = .held → (p.ackPoint e i).2 = true ∧
      (p.ackPoint e i).1.alarms.points[i] =
        { p.alarms.points[i] with state := .idle, acked := true, delay := .stopped, raiseTime := none }) ∧
    (p.alarms.points[i].state = .idle ∨ p.alarms.points[i].state = .raising →
      p.ackPoint e i = (p, false)) ∧
    (∀ j : PointIx, j ≠ i → (p.ackPoint e i).1.alarms.points[j] = p.alarms.points[j]) ∧
    ((p.ackPoint e i).2 = true → e.enabled i = true →
      ⟨p.alarms.nextSeq, e.stamp, some i, .ack⟩ ∈ (p.ackPoint e i).1.alarms.history)) ∧
  (∀ (q : Req) (s u : State), s.takes q → q.params = [0x0F] → u = s.taken 0x07 q →
    exec (.releaseCapture q) s = .next ((u.withPlant
      { u.plant with alarms := { u.plant.alarms with capture := none } }).answered 0x07 q .ok [0x0F])) ∧
  (∀ (e : Env) (p : Plant), Plant.ackPoints e [] p = (p, 0) ∧
    ∀ (i : PointIx) (rest : List PointIx) (q r : Plant) (took : Bool) (n : Nat),
      p.ackPoint e i = (q, took) → Plant.ackPoints e rest q = (r, n) →
      Plant.ackPoints e (i :: rest) p = (r, n + if took = true then 1 else 0)) ∧
  (∀ (e : Env) (i : PointIx) (p m : Plant) (y : Point), y =
    { p.alarms.points[i] with acked := true } →
    m = { p with alarms := { p.alarms with
      points := put p.alarms.points i y
      history := if e.enabled i = true then (p.alarms.history ++
        [HistoryEntry.mk p.alarms.nextSeq e.stamp (some i) .ack]).drop (p.alarms.history.length + 1 - 64)
          else p.alarms.history
      nextSeq := if e.enabled i = true then
        (if p.alarms.nextSeq =
          4294967295 then 1 else p.alarms.nextSeq + 1) else p.alarms.nextSeq } } →
    (p.alarms.points[i].state = .active ∨ p.alarms.points[i].state = .clearing →
      p.alarms.points[i].acked = false → p.ackPoint e i = (m, true)) ∧
    (p.alarms.points[i].state = .held → p.ackPoint e i = (m.clearPoint e i, true)))

/-- 03 R62 and R64: SET_TIME sets site time and its flag, and the next advance comes a full second later;
RESTART is answered OK in every state, and once its answer has been sent (request.restartDue) the warm reset
of cause RESTART is taken. That RESTART_RESET does nothing where no answered RESTART calls for it is the
model's reading (log entry 31). -/
def Obligations.SetTimeAndRestart : Prop :=
  (∀ (q : Req) (s u : State) (v : Nat), s.takes q → u = s.taken 0x07 q → v < 4294967296 →
    q.params = 0x10 :: be 4 v →
    exec (.setTime q) s = .next (({ u with env := { u.env with
      clock := ⟨u.env.clock.now, v, true, u.env.clock.now⟩ } }).answered 0x07 q .ok [0x10])) ∧
  (∀ (q : Req) (s : State), s.takes q → q.params = [0x13] →
    exec (.restart q) s = .next ((s.taken 0x07 q).answered 0x07 q .ok [0x13]) ∧
    ∀ (t₁ t₂ : State) (at₁ : Nat), exec .answerStart ((s.taken 0x07 q).answered 0x07 q .ok [0x13]) =
      .next t₁ → exec (.answerSent at₁) t₁ = .next t₂ →
      t₂.request.restartDue = true ∧ exec .restartReset t₂ = .next (t₂.resetBy .restart)) ∧
  (∀ s : State, s.request.restartDue = false → exec .restartReset s = .next s) ∧
  (∀ s : State, s.request.restartDue = true → exec .restartReset s = .next (s.resetBy .restart))

/-- 03 R48: a COMMAND whose parameters have not the length of its subcode is answered BAD_ENTRY with the
subcode echoed, and a unit index above 11 is answered RANGE; nothing else changes. -/
def Obligations.CommandParametersAreChecked : Prop :=
  ∀ (q : Req) (s : State) (x : Byte) (args : List Byte) (bad : State), s.takes q →
    q.params = x :: args →
    bad = (s.taken 0x07 q).answered 0x07 q .badEntry [x] →
    (args ≠ [] →
      (x = 0x01 → exec (.forceBoost q) s = .next bad) ∧ (x = 0x02 →
        exec (.startEqualize q) s = .next bad) ∧
      (x = 0x03 → exec (.startTest q) s = .next bad) ∧ (x = 0x04 →
        exec (.stopTest q) s = .next bad) ∧
      (x = 0x05 → exec (.resyncFull q) s = .next bad) ∧ (x = 0x06 →
        exec (.genStart q) s = .next bad) ∧
      (x = 0x07 → exec (.genStop q) s = .next bad) ∧ (x = 0x08 → exec (.genReset q) s = .next bad) ∧
      (x = 0x0B → exec (.rotateNow q) s = .next bad) ∧ (x = 0x0C →
        exec (.modeManual q) s = .next bad) ∧
      (x = 0x0D → exec (.modeAuto q) s = .next bad) ∧
      (x = 0x0F → exec (.releaseCapture q) s = .next bad) ∧
      (x = 0x11 → exec (.saveTables q) s = .next bad) ∧ (x = 0x12 →
        exec (.lockProfile q) s = .next bad) ∧
      (x = 0x13 → exec (.restart q) s = .next bad)) ∧
    (x = 0x0E → args.length ≠ 0 → args.length ≠ 5 → exec (.ack q) s = .next bad) ∧
    (x = 0x10 → args.length ≠ 4 → exec (.setTime q) s = .next bad) ∧
    (args.length ≠ 1 →
      (x = 0x09 → exec (.rectLockout q) s = .next bad) ∧ (x = 0x0A →
        exec (.rectRestore q) s = .next bad)) ∧
    (∀ i : Byte, args = [i] → 11 < i.toNat →
      (x = 0x09 → exec (.rectLockout q) s = .next ((s.taken 0x07 q).answered 0x07 q .range [x])) ∧
      (x = 0x0A → exec (.rectRestore q) s = .next ((s.taken 0x07 q).answered 0x07 q .range [x])))

/-! ### The exchange pool -/

/-- 02 R37: RELAY's checks in their order, and an exchange that passes them all joins the pool as QUEUED,
after every exchange already open. Each check that fails opens no record. -/
def Obligations.RelayOpensAnExchange : Prop :=
  ∀ (q : Req) (s u : State), s.takes q → u = s.taken 0x08 q →
    (q.params.length < 2 ∨ 58 < q.params.length →
      exec (.relay q) s = .next (u.answered 0x08 q .badEntry [])) ∧
    (∀ (target kind : Byte) (inner : List Byte), q.params = target :: kind :: inner →
      inner.length ≤ 56 →
      (8 ≤ s.line.pool.length → exec (.relay q) s = .next (u.answered 0x08 q .full [])) ∧
      (s.line.pool.length < 8 →
        (q.tag ∈ s.line.pool.map (·.tag) ∨ (kind ≠ kindPoll ∧ kind ≠ kindOrder) ∨ target = 0 ∨
            31 < target.toNat ∨ (target.toNat = 31 ∧ kind = kindPoll) →
          exec (.relay q) s = .next (u.answered 0x08 q .badEntry [])) ∧
        (∀ (st : Station) (k : BusKind), q.tag ∉ s.line.pool.map (·.tag) → k.byte = kind →
          target = BitVec.ofNat 8 st.val → st.val ≠ 0 → ¬ (st.val = 31 ∧ k = .poll) →
          (s.env.guardPasses st k = false →
            exec (.relay q) s = .next (u.answered 0x08 q .guarded [])) ∧
          (s.env.guardPasses st k = true →
            exec (.relay q) s = .next ((u.onLine fun l => { l with
              pool := l.pool ++ [⟨q.tag, st, k, inner, .queued⟩] }).answered 0x08 q .ok [])))))

/-- 02 R42: RESULT answers NO_RESULT, PENDING, or the outcome with the reply and frees the record; the
result hold's expiry frees a DONE record that was not collected. That the expiry's row brings the plant
clock to the hold's end is the model's choice (log entry 1). -/
def Obligations.ResultFreesADoneExchange : Prop :=
  (∀ (q : Req) (s u : State), s.takes q → u = s.taken 0x09 q →
    (q.params.length ≠ 1 → exec (.result q) s = .next (u.answered 0x09 q .badEntry [])) ∧
    (∀ tag : Byte, q.params = [tag] →
      (tag ∉ s.line.pool.map (·.tag) →
        exec (.result q) s = .next (u.answered 0x09 q .noResult [])) ∧
      (∀ x ∈ s.line.pool, (s.line.pool.map (·.tag)).Nodup → x.tag = tag →
        (x.state = .queued ∨ x.state = .sent →
          exec (.result q) s = .next (u.answered 0x09 q .pending [])) ∧
        (∀ o (r : Option (List Byte)) t h, x.state = .done o r t h → (r.getD []).length ≤ 64 →
          exec (.result q) s = .next ((u.onLine fun l => { l with
              pool := l.pool.filter fun y => y.tag != tag }).answered 0x09 q .ok
            ([BitVec.ofNat 8 o.toNat, BitVec.ofNat 8 (r.getD []).length] ++
              (r.getD []).take 60)))))) ∧
  (∀ (s : State) (x : Exchange) o r t (start length : Nat), x ∈ s.line.pool →
    (s.line.pool.map (·.tag)).Nodup → x.state = .done o r t (.running start length) →
    exec (.resultHoldExpiry x.tag) s = .next ((s.bringTo (start + length)).onLine fun l =>
      { l with pool := l.pool.filter fun y => y.tag != x.tag }))

/-- 02 R38 and R39: the policy that governs, the guard, and the clamp: a relayed SET_OUTPUT under CLAMP goes
out with its voltage within PROFILE's bus limits and, while there is an allowance, a limit no greater than
the one given and the target's share; any other inner payload goes out as given, and so does one that is not
7 bytes beginning with 0x01 (01 R11). The share of station 31 is the allowance over the number of mapped
rectifiers; of another station, the allowance over the ACTIVE count, no more than its record's rated current
where it has reported; a count of 0 is taken as 1. -/
def Obligations.GuardAndClamp : Prop :=
  (∀ (e : Env) (st : Station) (k : BusKind) (pol : Policy),
    pol = (if st.val = 31 then e.tables.stationMap[31].policy
      else if e.role st = .unused then e.tables.stationMap[32].policy else (e.entry st).policy) →
    (e.guardPasses st k = false ↔ pol = .block ∨
      (e.mode = .auto ∧ k = .order ∧ st.val ≠ 31 ∧
        (e.role st = .rectifier ∨ e.role st = .genset)) ∨
      (e.mode = .auto ∧ k = .order ∧ st.val = 31 ∧ ∃ x : Station, x.val ≠ 0 ∧ x.val ≠ 31 ∧
        (e.role x = .rectifier ∨ e.role x = .genset)))) ∧
  (∀ (e : Env) (p : Plant) (st : Station) (v l : Nat),
    e.tables.profile.busMin < e.tables.profile.busMax →
    e.tables.profile.busMax < 4294967296 → e.policy st = .clamp → v < 4294967296 → l < 65536 →
    ∃ v' l', p.clampPayload e st .order (be 1 1 ++ be 4 v ++ be 2 l) = be 1 1 ++ be 4 v' ++
      be 2 l' ∧
      e.tables.profile.busMin ≤ v' ∧ v' ≤ e.tables.profile.busMax ∧
      (e.tables.profile.busMin ≤ v → v ≤ e.tables.profile.busMax → v' = v) ∧ l' ≤ l ∧
      (p.gen.allowance = none → l' = l) ∧
      (∀ a, p.gen.allowance = some a → l' = min l (p.relayShare e st a))) ∧
  (∀ (e : Env) (p : Plant) (st : Station) (k : BusKind) (inner : List Byte),
    e.policy st ≠ .clamp ∨ k = .poll ∨ readSetOutput inner = none →
      p.clampPayload e st k inner = inner) ∧
  (∀ (e : Env) (p : Plant) (st : Station) (a : Nat), st.val ≠ 31 →
    p.relayShare e st a ≤ a / max 1 p.activeCount ∧
    (∀ u r, e.rectOf st = some u → p.rect.records[u].report = some r →
      p.relayShare e st a ≤ r.rated)) ∧
  (∀ (e : Env) (p : Plant) (st : Station) (a : Nat),
    (st.val = 31 → p.relayShare e st a =
      a / max 1 ((indices 32).countP fun x => decide (1 ≤ x.val ∧ x.val ≤ 30 ∧
        e.role x = .rectifier))) ∧
    (st.val ≠ 31 →
      (∀ (u : RectIx) (r : RectReport), e.role st = .rectifier → (e.entry st).unit = u.val →
        p.rect.records[u].report = some r →
        p.relayShare e st a = min r.rated (a / max 1 p.activeCount)) ∧
      ((∀ (u : RectIx) (r : RectReport), e.role st = .rectifier → (e.entry st).unit = u.val →
        p.rect.records[u].report ≠ some r) → p.relayShare e st a = a / max 1 p.activeCount))) ∧
  (∀ (e : Env) (p : Plant) (st : Station) (k : BusKind) (inner : List Byte),
    inner.length ≠ 7 ∨ inner.head? ≠ some 1 → p.clampPayload e st k inner = inner)

/-! ### The plant bus -/

/-- 01 R13, 02 R28, R33, R35 and R41: the arbiter's choice, with no transaction in progress, once the line
has been silent. After two transactions that were not polls a due poll goes first; then the queue's head;
then the oldest QUEUED exchange that the guard passes; then a due poll; then nothing. An exchange that the
guard refuses is BLOCKED, and the choice is made again. The millisecond at which the silence is long enough
is the model's choice (log entry 11). The due poll is what the search of eight cycles finds from the poll
position and the cycle count on, and the oldest QUEUED exchange is the first such record of the pool, which
stands in take order. -/
def Obligations.TheArbiterChooses : Prop :=
  (∀ (s : State), s.nextPoll = s.plant.searchPoll s.env 192 s.line.pollPos s.line.cycle ∧
    (∀ x, s.line.oldestQueued = some x ↔ x.state = .queued ∧ ∃ before after,
      s.line.pool = before ++ x :: after ∧ ∀ y ∈ before, y.state ≠ .queued) ∧
    (s.line.oldestQueued = none ↔ ∀ x ∈ s.line.pool, x.state ≠ .queued)) ∧
  ∀ (s u : State), s.line.txn = none → u = s.bringTo (s.line.quietFrom + silenceMs s.line.rate) →
    (∀ r, s.line.arbCount = 2 → u.nextPoll = some r →
      exec .busArbiterChoice s = .next (u.sendPoll r)) ∧
    (s.line.arbCount ≠ 2 ∨ u.nextPoll = none →
      (∀ o rest, s.plant.queue = o :: rest → exec .busArbiterChoice s =
        .next (u.sendOrder o rest)) ∧
      (s.plant.queue = [] →
        (∀ x, s.line.oldestQueued = some x → s.env.guardPasses x.target x.kind = true →
          exec .busArbiterChoice s = .next (u.sendExchange x)) ∧
        (∀ x, s.line.oldestQueued = some x → s.env.guardPasses x.target x.kind = false →
          exec .busArbiterChoice s = exec .busArbiterChoice (u.complete x.tag .blocked none)) ∧
        (s.line.oldestQueued = none →
          (∀ r, u.nextPoll = some r → exec .busArbiterChoice s = .next (u.sendPoll r)) ∧
          (u.nextPoll = none → exec .busArbiterChoice s = .next u))))

/-- 01 R3, R6, R13, 02 R28, R33, R35 and R41: what each of the three sends puts on the line: a frame from
station 0 under the bus tag count, which advances, and what it leaves of the poll position, the queue, the
pool and the arbiter's count. -/
def Obligations.FramesGoOutUnderTheBusTag : Prop :=
  ∀ s : State,
    (∀ (st : Station) (pos cycle : Nat), s.sendPoll (st, pos, cycle) =
      { s with line := { s.line with
      sent := some (Frame.encode ⟨BitVec.ofNat 8 st.val, 0, 0x10, BitVec.ofNat 8 s.line.tagCount,
        []⟩)
      tagCount := (s.line.tagCount + 1) % 256, pollPos := pos, cycle := cycle, arbCount := 0
      txn := some ⟨st, .poll, BitVec.ofNat 8 s.line.tagCount, [], .poll, .stopped, false,
        false⟩ } }) ∧
    (∀ (o : Order) (rest : List Order), s.sendOrder o rest = { s with
      plant := { s.plant with queue := rest }
      line := { s.line with
        sent := some (Frame.encode ⟨BitVec.ofNat 8 o.station.val, 0, 0x20,
          BitVec.ofNat 8 s.line.tagCount, o.body.payload⟩)
        tagCount := (s.line.tagCount + 1) % 256, arbCount := min (s.line.arbCount + 1) 2
        txn := some ⟨o.station, .order, BitVec.ofNat 8 s.line.tagCount, o.body.payload,
          .order { o with attempts := o.attempts + 1 }, .stopped, false, false⟩ } }) ∧
    (∀ (x : Exchange) (pl : List Byte), pl = s.plant.clampPayload s.env x.target x.kind x.payload →
      s.sendExchange x = { s with line := { s.line with
        sent := some (Frame.encode ⟨BitVec.ofNat 8 x.target.val, 0, x.kind.byte,
          BitVec.ofNat 8 s.line.tagCount, pl⟩)
        tagCount := (s.line.tagCount + 1) % 256, arbCount := min (s.line.arbCount + 1) 2
        pool := s.line.pool.map (fun y =>
          if y.tag == x.tag then { y with payload := pl, state := .sent } else y)
        txn := some ⟨x.target, x.kind, BitVec.ofNat 8 s.line.tagCount, pl, .exchange x.tag,
          .stopped,
          false, false⟩ } }) ∧
    (∀ (b : OrderBody), b.payload = match b with
      | .setOutput v l => [0x01] ++ be 4 v ++ be 2 l
      | .setState true => [0x02, 0x01]
      | .setState false => [0x02, 0x02]
      | .engine .start => [0x03, 0x01]
      | .engine .stop => [0x03, 0x02]
      | .engine .reset => [0x03, 0x03])

/-- 02 R28: the search for the next due poll. It answers the first due slot from the poll position on, with
the position after it and the cycle count that passing slot 23 has advanced; it answers none when no slot is
due through eight full cycles. A slot is due when it names a station 1 to 30 of a role other than UNUSED and
its class is due at the cycle count, a LOST station being due at 0 alone. -/
def Obligations.PollSearchFindsTheFirstDueSlot : Prop :=
  (∀ (c : PollClass) (lost : Bool) (cycle : Nat), cycle < 8 →
    (c.due lost cycle = true ↔
      (lost = false ∧ c = .every) ∨ (lost = false ∧ c = .alternate ∧ cycle % 2 = 0) ∨ cycle = 0)) ∧
  (∀ (e : Env) (p : Plant) (pos cycle : Nat) (st : Station) (pos' cycle' : Nat), pos < 24 →
    cycle < 8 →
    p.searchPoll e 192 pos cycle = some (st, pos', cycle') →
    ∃ k, k < 192 ∧
      p.dueAt e ((cycle + (pos + k) / 24) % 8) ((pos + k) % 24) = some st ∧
      (∀ j, j < k → p.dueAt e ((cycle + (pos + j) / 24) % 8) ((pos + j) % 24) = none) ∧
      pos' = (pos + k + 1) % 24 ∧ cycle' = (cycle + (pos + k + 1) / 24) % 8) ∧
  (∀ (e : Env) (p : Plant) (pos cycle : Nat), pos < 24 → cycle < 8 →
    (p.searchPoll e 192 pos cycle = none ↔
      ∀ cyc, cyc < 8 → ∀ slot, slot < 24 → p.dueAt e cyc slot = none)) ∧
  (∀ (e : Env) (p : Plant) (cycle : Nat) (pos : Fin 24) (st : Station), cycle < 8 →
    (p.dueAt e cycle pos.val = some st ↔
      st.val ≠ 0 ∧ st.val ≠ 31 ∧ e.tables.pollList[pos].station = st.val ∧ e.role st ≠ .unused ∧
      (cycle = 0 ∨ (p.links[st].status ≠ .lost ∧ (e.tables.pollList[pos].cls = .every ∨
        (e.tables.pollList[pos].cls = .alternate ∧ cycle % 2 = 0))))))

/-- 01 R5, R13 and 02 R41: the end of a frame's sending starts the reply window in force, but for a frame to
station 31, whose transaction ends; the window's expiry ends the transaction with no reply. 02 R33: an order
without a reply is dropped when its station is LOST (by this miss too) or its attempts have reached the
retries plus one; else it is abandoned without report when a newer order of its station and type waits, or
when MANUAL forbids the retry; else it goes back to the queue's head, or is dropped where the queue is full.
That the expiry's row brings the plant clock to the window's end is the model's choice (log entry 1). -/
def Obligations.ReplyWindowRuns : Prop :=
  (∀ (t : Nat) (s : State) (x : Txn), s.line.txn = some x → x.window = .stopped →
    x.station.val ≠ 31 →
    exec (.frameSendEnd t) s = .next ((s.bringTo t).onLine fun l => { l with
      quietFrom := max l.quietFrom t
      txn := some { x with
        window := .running (max s.env.clock.now t) s.env.tables.fieldTiming.replyWindow } })) ∧
  (∀ (t : Nat) (s : State) (x : Txn), s.line.txn = some x → x.window = .stopped →
    x.station.val = 31 →
    exec (.frameSendEnd t) s = .next (((((s.bringTo t).onLine fun l => { l with
      quietFrom := max l.quietFrom t }).completeCarried x .answered none).endTxn).finish)) ∧
  (∀ (s : State) (x : Txn) (start length : Nat), s.line.txn = some x →
    x.window = .running start length →
    exec .replyWindowExpiry s = .next (((s.bringTo (start + length)).noReply x).finish)) ∧
  (∀ (s : State) (x : Txn), x.voided = false → (∀ o, x.carried ≠ .order o) →
    s.noReply x = ((({ s with plant := s.plant.miss s.env x.station }).completeCarried x
      .noAnswer none).endTxn)) ∧
  (∀ (s : State) (x : Txn) (o : Order), x.voided = false → x.carried = .order o →
    s.noReply x = { s with
      plant := (s.plant.miss s.env x.station).retryOrder s.env o
        ((s.plant.miss s.env x.station).nowLost s.env x.station) x.noRetry
      line := { s.line with txn := none, rate := s.env.tables.fieldTiming.rate } }) ∧
  (∀ s : State, s.endTxn.line =
    { s.line with txn := none, rate := s.env.tables.fieldTiming.rate }) ∧
  (∀ (e : Env) (o : Order) (lost noRetry queued : Bool) (p : Plant),
    (queued = true ↔ ∃ x ∈ p.queue, x.station = o.station ∧ o.body.sameType x.body = true) →
    (lost = true ∨ e.tables.fieldTiming.orderRetries + 1 ≤ o.attempts →
      p.retryOrder e o lost noRetry = p.post [.orderDropped o]) ∧
    (lost = false → o.attempts < e.tables.fieldTiming.orderRetries + 1 →
      (noRetry = true ∨ queued = true → p.retryOrder e o lost noRetry =
        if o.body = .engine .reset then p.post [.resetEnded] else p) ∧
      (noRetry = false → queued = false →
        (16 ≤ p.queue.length → p.retryOrder e o lost noRetry = p.post [.orderDropped o]) ∧
        (p.queue.length < 16 → p.retryOrder e o lost noRetry =
          { p with queue := o :: p.queue })))) ∧
  (∀ a b : OrderBody, a.sameType b = true ↔
    (a.isSetOutput = true ∧ b.isSetOutput = true) ∨ (a.isEngine = true ∧ b.isEngine = true) ∨
    ∃ x y, a = .setState x ∧ b = .setState y) ∧
  (∀ (e : Env) (st : Station) (p : Plant), p.nowLost e st = true ↔
    p.links[st].status = .lost ∨ e.tables.fieldTiming.missLimit ≤ p.links[st].misses)

/-- 01 R10, R12, R13 and 02 R29, R33, R40, R41: a qualifying reply ends the transaction at the frame's end.
A REPORT that fits its station's role is handed to its unit, then counts as a good reply, then is mirrored,
then completes a relayed exchange; a CONFIRM or DECLINE that fits counts as a good reply and is handed to
the order's unit; a misfit ends it with no reply. What the units do with it: a rectifier report by its
record's status (07 R135, R137, R139, R140); a SET_STATE or SET_OUTPUT confirmed or declined (07 R139,
R150); a genset report, its fuel conditions, its engine status in each run state, then the orders it calls
for (08 R159, R160, R165 to R169, R172); an ENGINE order confirmed, declined or dropped (08 R165, R171,
R172). A transaction whose station's map entry changed hands nothing on (02 R22; what it does beyond that is
log entry 21's choice, what a FAULT does under the mains mark log entry 16's reading). A relayed SET_STATE
that is confirmed is handed to the rectifier unit. A report that fits its role's layout is handed to the
unit that the station names, and reaches none for FOREIGN and UNUSED; a station that mirrors keeps the
payload and the time; a relayed exchange goes to DONE with its outcome and reply, and its hold starts. That
a first character at the very millisecond of the window's end is inside the window is the model's choice
(log entry 38). The model's choices: the indication between the source and the conditions of a rectifier
report (log entry 65), the status left by a confirm of the part's own SET_STATE in MANUAL (log entry 64),
and a dropped ENGINE order forgotten at a report taken in LOST (log entry 60). That a FAULT is applied in
LOST and DISCOVERING too is its reading (log entry 61). -/
def Obligations.QualifyingRepliesEndTheTransaction : Prop :=
  (∀ (x : Txn) (f : RxFrame) (start length : Nat), x.window = .running start length → ∀ fr,
    (x.qualifying f = some fr ↔ parseFrame f = some fr ∧ start ≤ f.begins ∧
      f.begins ≤ start + length ∧
      fr.dest = 0 ∧ fr.source = BitVec.ofNat 8 x.station.val ∧ fr.tag = x.tag ∧
      ((x.kind = .poll ∧ fr.kind = kindReport) ∨
        (x.kind = .order ∧ (fr.kind = kindConfirm ∨ fr.kind = kindDecline))))) ∧
  (∀ (f : RxFrame) (s u : State) (x : Txn) (fr : Frame), s.line.txn = some x →
    x.qualifying f = some fr →
    u = (s.bringTo f.ends).onLine (fun l => { l with
      rxBuffer := f.bytes.take 72, quietFrom := max l.quietFrom f.ends }) →
    (fr.kind = kindReport →
      (∀ sigs, reportSignals (s.env.entry x.station) fr.payload u.env.clock.now = some sigs →
        x.voided = false →
        exec (.reportReceived f) s = .next
          ((((({ u with plant := (u.plant.post sigs).goodReply u.env x.station u.env.clock.now }).mirrorReport
            x.station fr.payload).completeCarried x .answered (some fr.payload)).endTxn).finish)) ∧
      (reportSignals (s.env.entry x.station) fr.payload u.env.clock.now = none →
        exec (.reportReceived f) s = .next ((u.noReply x).finish))) ∧
    (fr.kind = kindConfirm → x.voided = false → replyFits kindConfirm fr.payload x.payload = true →
      ∀ p : Plant, p = (u.plant.goodReply u.env x.station u.env.clock.now).confirmed u.env x →
      exec (.confirmReceived f) s = .next
        ((((u.withPlant p).completeCarried x .answered (some fr.payload)).endTxn).finish)) ∧
    (fr.kind = kindDecline → x.voided = false → replyFits kindDecline fr.payload x.payload = true →
      ∀ p : Plant, p = (u.plant.goodReply u.env x.station u.env.clock.now).declined x fr.payload →
      exec (.declineReceived f) s = .next
        ((((u.withPlant p).completeCarried x .declined (some fr.payload)).endTxn).finish)) ∧
    (fr.kind = kindConfirm → replyFits kindConfirm fr.payload x.payload = false →
      exec (.confirmReceived f) s = .next ((u.noReply x).finish)) ∧
    (fr.kind = kindDecline → replyFits kindDecline fr.payload x.payload = false →
      exec (.declineReceived f) s = .next ((u.noReply x).finish))) ∧
  (∀ (e : Env) (p : Plant) (x : Txn) (o : Order), x.carried = .order o →
    p.confirmed e x = p.post [.orderConfirmed o] ∧
    ∀ (ty reason : Byte), p.declined x [ty, reason] = p.post [.orderDeclined o reason.toNat]) ∧
  (∀ (e : Env) (u : RectIx) (r : RectReport) (p m a : Plant) (x : RectRec), x =
    { p.rect.records[u] with report := some r } →
    m = { p with rect := { p.rect with records := put p.rect.records u x } } →
    (p.rect.status u = .discovering → a = if r.fault =
      0 then m.joinStandby u else m.faultEntry e u .reported) →
    (p.rect.status u = .active ∨ p.rect.status u = .walkingIn ∨ p.rect.status u = .standby →
      (r.fault ≠ 0 → a = m.faultEntry e u .reported) ∧
      (r.fault = 0 → a = { m with rect := { m.rect with records := put m.rect.records u { x with
        follow := match x.commanded with
          | none => x.follow
          | some c => x.follow.while e.now (sec e.tables.rectifier.followTime)
              (r.acOk && r.outputOn != c) } } })) →
    (p.rect.status u = .lost ∧ r.fault ≠ 0 → a = m.faultEntry e u .reported) →
    ((p.rect.status u = .lost ∧ r.fault = 0) ∨ p.rect.status u = .faulted →
      a = { m with rect := { m.rect with records := put m.rect.records u { x with
        recovery := x.recovery.while e.now (sec e.tables.rectifier.recoveryTime)
          (p.linkOf (e.rectStation u) == .reporting && r.fault == 0) } } }) →
    (p.rect.status u = .lockedOut ∨ p.rect.status u = .absent → a = m) →
    p.handle e (.rectReport u r) = { a with agenda := a.agenda ++
      (if a.rect.status u = .active then [.busVoltage] ++
          (if p.rect.records[u].report.map (·.rated) = some r.rated then [] else [.compose []])
        else []) ++ [.workSource, .indication, .rectConds] }) ∧
  (∀ (e : Env) (u : RectIx) (b : OrderBody) (o : Order) (p : Plant), o.composer = .rect u →
    o.body = b →
    (p.rect.status u = .absent ∨ p.rect.status u = .discovering →
      p.handle e (.orderConfirmed o) = p ∧ (∀ n, p.handle e (.orderDeclined o n) = p)) ∧
    (p.rect.status u ≠ .absent → p.rect.status u ≠ .discovering →
      (∀ on, b = .setState on → ¬ (on = true ∧ p.rect.inFlight = some u) →
        p.handle e (.orderConfirmed o) = { p with rect := { p.rect with
          records := put p.rect.records u { p.rect.records[u] with
            commanded := some on, follow := .stopped } } }) ∧
      (b = .setState true → p.rect.inFlight = some u →
        p.handle e (.orderConfirmed o) = p.rectConfirmed e u (.setState true)) ∧
      (∀ v l, b = .setOutput v l → p.handle e (.orderConfirmed o) = p) ∧
      (∀ (n : Nat) (m : Plant), m = { p with rect := { p.rect with
          records := put p.rect.records u { p.rect.records[u] with decline := some n } } } →
        (∀ on, b = .setState on → (p.rect.status u).onDuty = true →
          p.handle e (.orderDeclined o n) = m.faultEntry e u .declined) ∧
        ((∀ on, b ≠ .setState on) ∨ (p.rect.status u).onDuty = false →
          p.handle e (.orderDeclined o n) = m))) ∧
    p.handle e (.orderDropped o) = p.rectDropped e u b) ∧
  (∀ (e : Env) (r : GensetReport) (t : Nat) (p : Plant),
    p.handle e (.gensetReport r t) = { p with
      gen := { p.gen with report := some (r, t) }
      agenda := p.agenda ++ [.fuel, .engineStatus r, .reofferEngine r] } ∧
    (∀ begun : Prop, p.gen.report = some (r, t) →
      begun = (r.fuel ≤ e.tables.genset.fuelCritical ∧ p.gen.fuelCritical = false ∧
        p.gen.reasons.exercise = true) →
      (begun → p.handle e .fuel = { p with
        gen := { p.gen with
          fuelLow := decide (r.fuel ≤ e.tables.genset.fuelLow), fuelCritical := true
          reasons := { p.gen.reasons with exercise := false }, exerciseDue := true }
        agenda := p.agenda ++ [.genConds, .exerciseCheck, .actOnReasons] }) ∧
      (¬ begun → p.handle e .fuel = { p with
        gen := { p.gen with
          fuelLow := decide (r.fuel ≤ e.tables.genset.fuelLow)
          fuelCritical := decide (r.fuel ≤ e.tables.genset.fuelCritical) }
        agenda := p.agenda ++ [.genConds, .exerciseCheck, .actOnReasons] })) ∧
    (p.gen.report = none → p.handle e .fuel = { p with
        gen := { p.gen with fuelLow := false, fuelCritical := false }
        agenda := p.agenda ++ [.genConds, .exerciseCheck, .actOnReasons] })) ∧
  (∀ (e : Env) (r : GensetReport) (p q : Plant), q = p.handle e (.engineStatus r) →
    (p.gen.run = .cranking →
      (r.engine = .running → q = p.enterRun e .warmup) ∧
      (r.engine ≠ .running → p.gen.mainsMark = true → ∀ m : Plant,
        m = { p with gen := { p.gen with
          mainsMark := false, lowVoltage := .stopped
          reasons := ⟨false, false, false, p.gen.reasons.exercise, p.gen.reasons.manual⟩ } } →
        (p.gen.reasons.exercise = false → p.gen.reasons.manual = false →
          q = (m.offerEngine e .stop).enterRun e .stopping) ∧
        (p.gen.reasons.exercise = true ∨ p.gen.reasons.manual = true → q = m)) ∧
      (p.gen.mainsMark = false → (r.engine = .fault → q = p.genFailure e .start) ∧
        (r.engine = .stopped ∨ r.engine = .cranking → q = p))) ∧
    (p.gen.run = .rest → (r.engine = .fault → q = p.genFailure e .start) ∧ (r.engine ≠ .fault →
      q = p)) ∧
    (p.gen.run = .warmup ∨ p.gen.run = .onLoad ∨ p.gen.run = .cooldown →
      (r.engine = .stopped ∨ r.engine = .fault → q = p.genFailure e .run) ∧
      (r.engine = .cranking ∨ r.engine = .running →
        (p.gen.run = .warmup → p.gen.warmupSecond ≠ .stopped → r.available = true →
          q = p.enterRun e .onLoad) ∧
        (p.gen.run ≠ .warmup ∨ p.gen.warmupSecond = .stopped ∨ r.available = false → q = p))) ∧
    (p.gen.run = .stopping → (r.engine = .stopped ∨ r.engine = .fault → q = p.enterRun e .off) ∧
      (r.engine = .cranking ∨ r.engine = .running → q = p)) ∧
    (p.gen.run = .off ∨ p.gen.run = .failed ∨ p.gen.run = .lockedOut ∨ p.gen.run = .disabled →
      q = p)) ∧
  (∀ (e : Env) (r : GensetReport) (p m : Plant) (again stray : Prop) (a : EngineAction),
    again = (p.gen.dropped = some a ∧ ((a = .start ∧ p.gen.run = .cranking) ∨
      (a = .stop ∧ (p.gen.run = .rest ∨ p.gen.run = .stopping ∨ p.gen.run = .failed ∨
        p.gen.run = .lockedOut ∨ p.gen.run = .disabled)))) →
    stray = (p.gen.run = .off ∧ p.charge.state ≠ .startUp ∧ e.mode = .auto ∧
      p.gen.reasons = ⟨false, false, false, false, false⟩ ∧
      (r.engine = .cranking ∨ r.engine = .running)) →
    (again → m = ({ p with gen := { p.gen with dropped := none } } : Plant).offerEngine e a) →
    ((p.gen.dropped = none ∨ (p.gen.dropped = some a ∧ ¬ again)) → m = p) →
    again ∨ p.gen.dropped = none ∨ p.gen.dropped = some a →
    (stray → p.handle e (.reofferEngine r) = m.offerEngine e .stop) ∧
    (¬ stray → p.handle e (.reofferEngine r) = m)) ∧
  (∀ (e : Env) (a : EngineAction) (o : Order) (p ended : Plant), o.composer = .gen →
    o.body = .engine a →
    ended = { p with gen := { p.gen with resetOutstanding := false }, agenda := p.agenda ++ [.actOnReasons] } →
    p.handle e (.orderConfirmed o) = (if a = .reset then ended else p) ∧
    (∀ (n : Nat) (m : Plant), m = { p with gen := { p.gen with decline := some n } } →
      p.handle e (.orderDeclined o n) = match a with
        | .start => m.crankEnds e
        | .stop => m
        | .reset => { m with
            gen := { m.gen with resetOutstanding := false }, agenda := m.agenda ++
              [.actOnReasons] }) ∧
    (a = .reset → p.handle e (.orderDropped o) = ended) ∧
    (p.linkOf e.gensetStation = .reporting →
      (a = .start ∧ p.gen.run = .cranking) ∨ (a = .stop ∧ (p.gen.run = .rest ∨
        p.gen.run = .stopping ∨
        p.gen.run = .failed ∨ p.gen.run = .lockedOut ∨ p.gen.run = .disabled)) →
      p.handle e (.orderDropped o) = { p with gen := { p.gen with dropped := some a } }) ∧
    (p.linkOf e.gensetStation ≠ .reporting ∨
        ¬ ((a = .start ∧ p.gen.run = .cranking) ∨ (a = .stop ∧ (p.gen.run = .rest ∨
          p.gen.run = .stopping ∨
          p.gen.run = .failed ∨ p.gen.run = .lockedOut ∨ p.gen.run = .disabled))) →
      a ≠ .reset → p.handle e (.orderDropped o) = p)) ∧
  (∀ (f : RxFrame) (s u : State) (x : Txn) (fr : Frame) (p : Plant), s.line.txn = some x →
    x.qualifying f = some fr →
    x.voided = true → u = (s.bringTo f.ends).onLine (fun l => { l with
      rxBuffer := f.bytes.take 72, quietFrom := max l.quietFrom f.ends }) →
    (∀ o, x.carried = .order o → o.body = .engine .reset → p = u.plant.post [.resetEnded]) →
    ((∀ o, x.carried = .order o → o.body ≠ .engine .reset) → p = u.plant) →
    (fr.kind = kindReport →
      reportSignals (s.env.entry x.station) fr.payload u.env.clock.now ≠ none →
      exec (.reportReceived f) s =
        .next (((u.completeCarried x .answered (some fr.payload)).endTxn).finish)) ∧
    (fr.kind = kindConfirm → replyFits kindConfirm fr.payload x.payload = true →
      exec (.confirmReceived f) s = .next
        ((((u.withPlant p).completeCarried x .answered (some fr.payload)).endTxn).finish)) ∧
    (fr.kind = kindDecline → replyFits kindDecline fr.payload x.payload = true →
      exec (.declineReceived f) s = .next
        ((((u.withPlant p).completeCarried x .declined (some fr.payload)).endTxn).finish)) ∧
    u.noReply x = (((u.withPlant p).completeCarried x .noAnswer none).endTxn)) ∧
  (∀ (e : Env) (p : Plant) (x : Txn) (tag : Byte), x.carried = .exchange tag →
    (∀ i, e.rectOf x.station = some i → x.payload = [0x02, 0x01] →
      p.confirmed e x = p.post [.snooped i true]) ∧
    (∀ i, e.rectOf x.station = some i → x.payload = [0x02, 0x02] →
      p.confirmed e x = p.post [.snooped i false]) ∧
    (e.rectOf x.station = none ∨ (x.payload ≠ [0x02, 0x01] ∧ x.payload ≠ [0x02, 0x02]) →
      p.confirmed e x = p)) ∧
  (∀ (x : StationEntry) (b : List Byte) (t : Nat),
    (x.role = .unused ∨ x.role = .foreign → reportSignals x b t = some []) ∧
    (x.role = .rectifier →
      (readRectReport b = none → reportSignals x b t = none) ∧
      (∀ r (u : RectIx), readRectReport b = some r → x.unit = u.val →
        reportSignals x b t = some [.rectReport u r])) ∧
    (x.role = .stringMonitor →
      (readStringReport b = none → reportSignals x b t = none) ∧
      (∀ r (i : StringIx), readStringReport b = some r → x.unit = i.val →
        reportSignals x b t = some [.stringReport i r t])) ∧
    (x.role = .genset →
      (readGensetReport b = none → reportSignals x b t = none) ∧
      (∀ r, readGensetReport b = some r → reportSignals x b t = some [.gensetReport r t]))) ∧
  (∀ (s : State) (x : Txn) (st : Station) (b : List Byte) (tag : Byte) (o : ExOutcome)
    (reply : Option (List Byte)),
    ((s.env.entry st).mirror = true → s.mirrorReport st b = { s with
      line := { s.line with mirrors := put s.line.mirrors st (some ⟨b, s.env.clock.now⟩) } }) ∧
    ((s.env.entry st).mirror = false → s.mirrorReport st b = s) ∧
    (x.carried = .exchange tag → s.completeCarried x o reply = s.complete tag o reply) ∧
    ((∀ g, x.carried ≠ .exchange g) → s.completeCarried x o reply = s) ∧
    s.complete tag o reply = { s with line := { s.line with
      pool := s.line.pool.map fun y => if y.tag = tag then { y with
        state := .done o reply s.env.clock.now
          (.running s.env.clock.now (sec s.env.tables.fieldTiming.resultHold)) } else y } } ∧
    s.endTxn = { s with line := { s.line with txn := none, rate := s.env.tables.fieldTiming.rate } })

/-- 01 R13: a frame that is no qualifying reply is discarded, by whichever row it comes. It defers the next
send, and ends the transaction with no reply only when the window expired while it was received; at the very
millisecond of the expiry that is the model's choice (log entry 38). -/
def Obligations.OtherBusFramesAreDiscarded : Prop :=
  (∀ (f : RxFrame) (s : State), (∀ x, s.line.txn = some x → x.qualifying f = none) →
    exec (.reportReceived f) s = exec (.discardBusFrame f) s ∧
    exec (.confirmReceived f) s = exec (.discardBusFrame f) s ∧
    exec (.declineReceived f) s = exec (.discardBusFrame f) s) ∧
  ∀ (f : RxFrame) (s u : State), u = (s.bringTo f.ends).onLine (fun l => { l with
      rxBuffer := f.bytes.take 72, quietFrom := max l.quietFrom f.ends }) →
    (s.line.txn = none → exec (.discardBusFrame f) s = .next u) ∧
    (∀ x start length, s.line.txn = some x → x.window = .running start length →
      x.qualifying f = none →
      (start ≤ f.begins ∧ f.begins ≤ start + length ∧ start + length ≤ f.ends →
        exec (.discardBusFrame f) s = .next ((u.noReply x).finish)) ∧
      (f.begins < start ∨ start + length < f.begins ∨ f.ends < start + length →
        exec (.discardBusFrame f) s = .next u))

/-- 02 R23 to R25: what a good reply and a miss do to a link record, and when its status changes. Nothing
else changes at a reply or a miss but what is handed on. A change of status, whole: the unit told, a lost
station's orders taken out and dropped, the source and the indication worked out for a rectifier, then
FIELD_BUS_FAULT (point 29), which holds while the poll list names a station of a role other than UNUSED and
every one so named is LOST. What the units do with a notice: rectifiers (07 R134, with R138 and R140),
strings (04 R67) and the genset (08 R158, R171); that its fuel conditions are worked out at a map change too
is the model's reading (log entry 23). The order of the hand-ons is the model's choice (log entry 9). The
order in which a change of link status is handed on is the model's choice (log entries 62 and 65). -/
def Obligations.LinkRecordsFollowReplies : Prop :=
  (∀ (e : Env) (p : Plant) (st : Station) (t : Nat), e.role st ≠ .unused →
    (p.goodReply e st t).links[st] = { p.links[st] with
      misses := 0, goods := min (p.links[st].goods + 1) 255, lastReply := some t } ∧
    (p.goodReply e st t).agenda = p.agenda ++
      (if p.links[st].status = .discovering ∨ (p.links[st].status = .lost ∧
          e.tables.fieldTiming.recoveryCount ≤ min (p.links[st].goods + 1) 255)
        then [.linkStatus st .reporting] else []) ∧
    (p.miss e st).links[st] = { p.links[st] with
      misses := min (p.links[st].misses + 1) 255, goods := 0 } ∧
    (p.miss e st).agenda = p.agenda ++
      (if (p.links[st].status = .discovering ∨ p.links[st].status = .reporting) ∧
          e.tables.fieldTiming.missLimit ≤ min (p.links[st].misses + 1) 255
        then [.linkStatus st .lost] else [])) ∧
  (∀ (e : Env) (p : Plant) (st : Station) (t : Nat), e.role st = .unused →
    p.goodReply e st t = p ∧ p.miss e st = p) ∧
  (∀ (e : Env) (p : Plant) (st x : Station) (t : Nat), x ≠ st →
    (p.goodReply e st t).links[x] = p.links[x] ∧ (p.miss e st).links[x] = p.links[x]) ∧
  (∀ (e : Env) (p : Plant) (st : Station) (new : LinkStatus), p.links[st].status ≠ new →
    (p.changeLink e st new).links[st] = { p.links[st] with status := new } ∧
    (new = .lost →
      (p.changeLink e st new).queue = p.queue.filter (fun o => !(o.station == st)) ∧
      ∀ o ∈ p.queue, o.station = st → Signal.orderDropped o ∈ (p.changeLink e st new).agenda) ∧
    (new ≠ .lost → (p.changeLink e st new).queue = p.queue) ∧
    (p.changeLink e st new).agenda.getLast? = some .fieldBus) ∧
  (∀ (e : Env) (p : Plant) (st : Station) (t : Nat),
    p.goodReply e st t = { p with
      links := (p.goodReply e st t).links, agenda := (p.goodReply e st t).agenda } ∧
    p.miss e st = { p with links := (p.miss e st).links, agenda := (p.miss e st).agenda }) ∧
  (∀ (e : Env) (p : Plant) (st : Station) (new : LinkStatus) (notes readers : List Signal) (m : Plant),
    m = { p with links := put p.links st { p.links[st] with status := new } } →
    notes = (if new = .reporting then (e.entry st).notify .reporting
      else if new = .lost then (e.entry st).notify .lost else []) →
    readers = (if e.role st = .rectifier then [.workSource, .indication] else []) →
    (p.links[st].status = new → p.handle e (.linkStatus st new) = p) ∧
    (p.links[st].status ≠ new → new ≠ .lost → p.handle e (.linkStatus st new) = { m with
      agenda := p.agenda ++ (notes ++ readers ++ [.fieldBus]) }) ∧
    (p.links[st].status ≠ new → new = .lost → p.handle e (.linkStatus st new) = { m with
      queue := p.queue.filter fun o => !(o.station == st)
      agenda := p.agenda ++ (notes ++
        (p.queue.filter fun o => o.station == st).map Signal.orderDropped ++ readers ++
          [.fieldBus]) })) ∧
  (∀ (e : Env) (u : RectIx) (p : Plant) (old : RectStatus) (x : RectRec) (w : List RectIx)
    (m : RectRec → List RectIx → Plant), old = p.rect.status u → x = p.rect.records[u] →
    w = p.rect.walkIn.filter (fun v => v != u) →
    (∀ y l, m y l = { p with
      rect := { p.rect with
        records := put p.rect.records u y
        walkIn := w
        stagger := if w = [] then .stopped else p.rect.stagger
        duty := p.rect.duty.filter fun v => v != u
        out := p.rect.out.filter (fun v => v != u) ++ l
        inFlight := if p.rect.inFlight = some u then none else p.rect.inFlight }
      agenda := p.agenda ++ ((if old = .active ∨ old = .walkingIn
        then [.refill (old == .active)] else []) ++
        [.rectConds]) }) →
    p.handle e (.rectNotice u .absent) =
      m { x with status := .absent, follow := .stopped, recovery := .stopped } [] ∧
    p.handle e (.rectNotice u .discovering) =
      m ⟨.discovering, none, none, none, none, .none, [], .stopped, .stopped, 0, 0⟩ [] ∧
    (old = .lockedOut ∨ old = .absent → p.handle e (.rectNotice u .lost) = p) ∧
    (old ≠ .lockedOut → old ≠ .absent → p.handle e (.rectNotice u .lost) =
      m { x with status := .lost, follow := .stopped, recovery := .stopped } [u]) ∧
    (old = .faulted ∨ old = .lost → p.handle e (.rectNotice u .reporting) = { p with
      rect := { p.rect with records := put p.rect.records u { x with
        recovery := x.recovery.while e.now (sec e.tables.rectifier.recoveryTime)
          (p.linkOf (e.rectStation u) == .reporting && x.report.any fun r => r.fault == 0) } } }) ∧
    (old ≠ .faulted → old ≠ .lost → p.handle e (.rectNotice u .reporting) = p)) ∧
  (∀ (e : Env) (i : StringIx) (n : UnitNotice) (p : Plant) (y : UnitStatus),
    y = (if e.tables.strings[i].capacity = 0 then .absent else match n with
      | .discovering => .discovering | .reporting => .reporting | .lost => .lost
      | .absent => .absent) →
    p.handle e (.stringNotice i n) = { p with
      strings := put p.strings i { p.strings[i] with status := y }
      agenda := p.agenda ++ if p.strings[i].status = y then [] else [.recompute] }) ∧
  (∀ (e : Env) (p : Plant) (g : GenUnit) (y : UnitStatus) (n : UnitNotice),
    y = (match n with
      | .discovering => .discovering | .reporting => .reporting | .lost => .lost
      | .absent => .absent) →
    g = { p.gen with
      status := y, resetOutstanding := p.gen.resetOutstanding && n == .reporting } →
    (n ≠ .discovering → p.handle e (.gensetNotice n) =
      { p with gen := g, agenda := p.agenda ++ [.genConds, .actOnReasons] }) ∧
    (n = .discovering → p.handle e (.gensetNotice n) = { p with
      gen := { g with report := none, decline := none, fuelLow := false, fuelCritical := false }
      agenda := p.agenda ++ [.genConds, .exerciseCheck, .actOnReasons] ++ [.genConds,
        .actOnReasons] })) ∧
  (∀ (e : Env) (p : Plant) (b : Bool) (named : Station → Prop),
    (∀ st, named st ↔ st.val ≠ 0 ∧ st.val ≠ 31 ∧ e.role st ≠ .unused ∧
      ∃ i : Fin 24, e.tables.pollList[i].station = st.val) →
    (b = true ↔ (∃ st, named st) ∧ ∀ st, named st → p.links[st].status = .lost) →
    p.handle e .fieldBus = p.setCond e 29 b) ∧
  (∀ (e : Env) (r : Role) (n : Nat) (u : RectIx) (p : Plant),
    (p.linkOf none = .unmapped ∧ ∀ st : Station, p.linkOf (some st) = p.links[st].status) ∧
    (∀ st : Station, e.unitStation r n = some st →
      st.val ≠ 0 ∧ st.val ≠ 31 ∧ e.role st = r ∧ (e.entry st).unit = n) ∧
    (e.unitStation r n = none ↔ ∀ st : Station, st.val ≠ 0 → st.val ≠ 31 →
      ¬ (e.role st = r ∧ (e.entry st).unit = n)) ∧
    e.rectStation u = e.unitStation .rectifier u.val ∧
    e.gensetStation = e.unitStation .genset 0)

/-- 02 R31 and R32: an order offered to a station that is UNMAPPED or LOST is dropped and its unit told; one
that matches a queued order replaces it in its place with no attempts; any other joins at the tail, and in a
full queue the oldest SET_OUTPUT, otherwise the oldest order, makes room. An offer changes the queue alone;
when it displaces or replaces the last ENGINE RESET there, the generator run unit is told (08 R171). Orders
match by station and order type. -/
def Obligations.OrdersJoinTheQueue : Prop :=
  (∀ (o : Order) (p : Plant), p.links[o.station].status = .unmapped ∨
    p.links[o.station].status = .lost →
    p.offer o = p.post [.orderDropped o]) ∧
  (∀ (o : Order) (p : Plant), p.links[o.station].status = .discovering ∨
      p.links[o.station].status = .reporting → (p.offer o).queue = enqueueOrder o p.queue) ∧
  (∀ (o m : Order) (before after : List Order), queueLaw (before ++ m :: after) →
    o.matches m = true →
    enqueueOrder o (before ++ m :: after) = before ++ { o with attempts := 0 } :: after) ∧
  (∀ (o : Order) (q : List Order), q.any o.matches = false →
    (q.length < 16 → enqueueOrder o q = q ++ [o]) ∧
    (16 ≤ q.length →
      (∀ before m after, q = before ++ m :: after → m.body.isSetOutput = true →
        (∀ x ∈ before, x.body.isSetOutput = false) → enqueueOrder o q = before ++ after ++ [o]) ∧
      ((∀ x ∈ q, x.body.isSetOutput = false) → enqueueOrder o q = q.tail ++ [o]))) ∧
  (∀ (o : Order) (p : Plant), p.links[o.station].status = .discovering ∨
      p.links[o.station].status = .reporting →
    p.offer o = { p with
      queue := enqueueOrder o p.queue
      agenda := p.agenda ++ if (∃ x ∈ p.queue, x.body = .engine .reset) ∧
        ¬ (∃ x ∈ enqueueOrder o p.queue, x.body = .engine .reset) then [.resetEnded] else [] }) ∧
  (∀ (o x : Order), (o.matches x = true ↔ o.station = x.station ∧
      ((∃ a b c d, o.body = .setOutput a b ∧ x.body = .setOutput c d) ∨
        (∃ a b, o.body = .setState a ∧ x.body = .setState b) ∨
        (∃ a b, o.body = .engine a ∧ x.body = .engine b))) ∧
    (o.body.isSetOutput = true ↔ ∃ a b, o.body = .setOutput a b))

/-! ### Timers -/

/-- 05 R95 to R97, R100, R101, R104, R108 and 04 R78: what the controller's timers and the temperature hold
do at their expiry. 05 R93, R107: what a change of plant state does, with the setpoint of the new state and
no trim (R108 to R110, R112), a running test's voltage (06 R121) and the end of CURRENT_LIMITING, and that
it changes nothing else. 05 R90, R91: the mains, the source, and to whom a change of source goes; that a
change to NONE reaches the generator run unit, with a start that it calls for, before the test, whose end is
then ABORTED_GENERATOR, is the model's choice (log entry 50). 05 R94 to R106: an examination, whole: the
status flags, conditions 11 and 12 and the taper current first, then each plant state's own transition. 05
R109, R111: what follows it at an evaluation, where no change of plant state was made. Here and below, that
an expiry's row brings the plant clock forward to the expiry is the model's choice (log entry 1), and so is
the order examination, working-out, pending test at an evaluation (log entry 24). 05 R92, R101, R107, R111:
conditions 4, 5, 11, 12, 14 and 24 as they are handed. The order of these conditions, of the setpoint's
readers, and of the readers of a change of source or of plant state is the model's choice (log entries 57,
59 and 65). -/
def Obligations.ChargeTimersExpire : Prop :=
  (∀ (s u : State) (start length : Nat), u = s.bringTo (start + length) →
    (s.plant.charge.evaluation = .running start length →
      exec .evaluationExpiry s = .next ((u.withPlant (({ u.plant with
        charge := { u.plant.charge with
          evaluation := .running u.env.now (sec u.env.tables.plant.evaluation), stateChanged :=
            false } }).post
            [.examine, .evaluationTail, .scheduledTest])).finish)) ∧
    (s.plant.charge.startHold = .running start length → s.plant.charge.state = .startUp →
      exec .startUpHoldExpiry s = .next ((u.withPlant (u.plant.changePlant u.env
        (if u.plant.charge.source = .none ∨
            u.plant.battery.iBat ≤ -(u.env.tables.plant.dischargeThreshold : Int) then .discharge
          else if u.plant.battery.weakestSoc ≤ 100 - u.env.tables.profile.boostEntry ∧
            u.plant.charge.boostInhibit = false ∧ u.plant.charge.overTemp = false then .boost
          else .float))).finish)) ∧
    (s.plant.charge.dischargeDebounce = .running start length →
      (s.plant.charge.state = .float ∨ s.plant.charge.state = .boost →
        exec .dischargeDebounceExpiry s =
          .next ((u.withPlant (u.plant.changePlant u.env .discharge)).finish)) ∧
      (s.plant.charge.state = .equalize →
        exec .dischargeDebounceExpiry s = .next ((u.withPlant (({ u.plant with
          charge := { u.plant.charge with equalizePending := true } } : Plant).changePlant
            u.env .discharge)).finish))) ∧
    (s.plant.charge.recoveryDebounce = .running start length → s.plant.charge.state = .discharge →
      exec .recoveryDebounceExpiry s = .next ((u.withPlant (u.plant.changePlant u.env
        (if u.plant.battery.weakestSoc ≤ 100 - u.env.tables.profile.boostEntry ∧
          u.plant.charge.overTemp = false then .boost else .float))).finish)) ∧
    (s.plant.charge.boost = .running start length → s.plant.charge.state = .boost →
      exec .boostTimerExpiry s = .next ((u.withPlant (({ u.plant with
        charge := { u.plant.charge with boostTimeout := true, boostInhibit := true } } : Plant).changePlant
          u.env .float)).finish)) ∧
    (s.plant.charge.taper = .running start length → s.plant.charge.state = .boost →
      exec .taperHoldExpiry s = .next ((u.withPlant (({ u.plant with
        charge := { u.plant.charge with taper := .stopped } }).post [.resync, .taperEnd])).finish) ∧
      u.plant.handle u.env .taperEnd = u.plant.changePlant u.env .float) ∧
    (s.plant.charge.equalizeDuration = .running start length → s.plant.charge.state = .equalize →
      exec .equalizeDurationExpiry s = .next ((u.withPlant (({ u.plant with
        charge := { u.plant.charge with
          equalizePending := false, equalizeCount :=
            0 } } : Plant).changePlant u.env .float)).finish)) ∧
    (s.plant.battery.hold = .running start length →
      exec .tempHoldExpiry s = .next ((u.withPlant (({ u.plant with
        battery := { u.plant.battery with hold := .stopped, tComp := 300, tSource := .fallback } }).post
          [.recompute])).finish))) ∧
  (∀ (e : Env) (x : PlantState) (p : Plant) (c : Charge), c = (p.changePlant e x).charge →
    c.state = x ∧ c.stateSince = e.now ∧ c.trim = 0 ∧ c.stateChanged = true ∧
    c.dischargeDebounce = .stopped ∧ c.recoveryDebounce = .stopped ∧ c.startHold = .stopped ∧
    c.taper = .stopped ∧
    c.boost = (if x = .boost then .running e.now (hours e.tables.profile.boostMax) else .stopped) ∧
    c.equalizeDuration =
      (if x = .equalize then .running e.now (hours e.tables.plant.equalizeDuration) else .stopped) ∧
    c.boostInhibit = (p.charge.boostInhibit && x != .boost && x != .discharge) ∧
    c.boostTimeout = (p.charge.boostTimeout && x != .boost) ∧
    c.equalizePending = (p.charge.equalizePending && x != .equalize) ∧
    c.equalizeCount = (if x = .equalize then 0 else p.charge.equalizeCount) ∧
    c.evaluation = p.charge.evaluation ∧ c.source = p.charge.source ∧
    c.setpoint = e.tables.profile.clampBus c.base ∧
    (p.changePlant e x).strings = p.strings ∧ (p.changePlant e x).queue = p.queue ∧
    (p.changePlant e x).rect = p.rect ∧ (p.changePlant e x).gen = p.gen ∧
    (p.changePlant e x).agenda = p.agenda ++
      [.rectPlant p.charge.state x, .compose [], .workAllowance, .genPlant p.charge.state x,
        .ldExam,
        .chargeConds] ++ if x = .test then [] else [.examine]) ∧
  (∀ (e : Env) (p q : Plant) (ac feeds mains : Prop), q = p.handle e .workSource →
    ac = (∃ (u : RectIx) (st : Station) (r : RectReport), e.rectStation u = some st ∧
      p.links[st].status = .reporting ∧ p.rect.records[u].report = some r ∧ r.acOk = true) →
    feeds = (p.gen.run = .warmup ∨ p.gen.run = .onLoad ∨ p.gen.run = .cooldown) →
    mains = ((e.hasInput .mainsSense = true ∧ e.inputLevel .mainsSense = true) ∨
      (e.hasInput .mainsSense = false ∧ ac ∧ ¬ feeds)) →
    (q.charge.mains = true ↔ mains) ∧ (mains → q.charge.source = .mains) ∧
    (¬ mains → feeds → ac → q.charge.source = .generator) ∧
    (¬ mains → ¬ (feeds ∧ ac) → q.charge.source = .none) ∧
    q = { p with
      charge := { p.charge with mains := q.charge.mains, source := q.charge.source }
      agenda := p.agenda ++ if q.charge.source = p.charge.source then [.chargeConds] else
        [.rectSource p.charge.source q.charge.source, .genSource p.charge.source q.charge.source,
          .testSource, .ldExam, .chargeConds, .examine] }) ∧
  (∀ (e : Env) (p u : Plant) (o h w valid short lets : Bool),
    (o = true ↔ ∃ i : StringIx, p.strings[i].status = .reporting ∧ p.strings[i].tempValid = true ∧
      e.tables.profile.cutoffTemp ≤ p.strings[i].temperature) →
    (h = true ↔ ∃ i : StringIx, p.strings[i].status = .reporting ∧ p.strings[i].tempValid = true ∧
      e.tables.profile.highTemp ≤ p.strings[i].temperature) →
    (w = true ↔ ∃ i : StringIx, p.strings[i].status = .reporting ∧ p.strings[i].tempValid = true ∧
      e.tables.profile.equalizeMaxTemp ≤ p.strings[i].temperature) →
    (valid = true ↔ ∃ i : StringIx, p.strings[i].status = .reporting ∧
      p.strings[i].tempValid = true) →
    (short = true ↔ p.battery.weakestSoc ≤ 100 - e.tables.profile.boostEntry) →
    (lets = true ↔ p.charge.source = .mains ∨
      (p.charge.source = .generator ∧ e.tables.plant.equalizeOnGenerator = true)) →
    u = (((({ p with charge := { p.charge with
        overTemp := o, highTemp := h, boostInhibit := p.charge.boostInhibit && short
        taperCurrent := ((p.reportingStrings.map fun i =>
          e.tables.strings[i].capacity * e.tables.profile.taperRate).sum / 100 : Nat) } } : Plant).setCond e
      11 h).setCond e 12 o).postIf (o && !p.charge.overTemp) [.testAbort .abortedAlarm]) →
    (p.charge.state = .startUp ∨ p.charge.state = .test → p.handle e .examine = u) ∧
    (p.charge.state = .discharge → p.handle e .examine = { u with charge := { u.charge with
      recoveryDebounce := p.charge.recoveryDebounce.while e.now (sec e.tables.plant.debounce)
        (decide (p.charge.source ≠ .none ∧ 0 ≤ p.battery.iBat)) } }) ∧
    (p.charge.state = .float →
      (p.charge.source = .none → p.handle e .examine = u.changePlant e .discharge) ∧
      (p.charge.source ≠ .none →
        (short = true → p.charge.boostInhibit = false → o = false →
          p.handle e .examine = u.changePlant e .boost) ∧
        (short = false ∨ p.charge.boostInhibit = true ∨ o = true →
          (p.charge.equalizePending = true → o = false → valid = true → w = false → lets = true →
            p.handle e .examine = u.changePlant e .equalize) ∧
          (p.charge.equalizePending = false ∨ o = true ∨ valid = false ∨ w = true ∨ lets = false →
            p.handle e .examine = { u with charge := { u.charge with
              dischargeDebounce := p.charge.dischargeDebounce.while e.now (sec e.tables.plant.debounce)
                (decide (p.battery.iBat ≤ -(e.tables.plant.dischargeThreshold : Int))) } })))) ∧
    (p.charge.state = .boost →
      (p.charge.source = .none → p.handle e .examine = u.changePlant e .discharge) ∧
      (p.charge.source ≠ .none → o = true → p.handle e .examine = u.changePlant e .float) ∧
      (p.charge.source ≠ .none → o = false → p.handle e .examine =
        { u with charge := { u.charge with
        dischargeDebounce := p.charge.dischargeDebounce.while e.now (sec e.tables.plant.debounce)
          (decide (p.battery.iBat ≤ -(e.tables.plant.dischargeThreshold : Int)))
        taper := p.charge.taper.while e.now (minutes e.tables.profile.taperHold)
          (decide (p.reportingStrings ≠ [] ∧ (∀ i ∈ p.reportingStrings,
            p.strings[i].shortfall ≤ 0 ∨ p.strings[i].estimated = true) ∧
            p.battery.iChg ≤ u.charge.taperCurrent)) } })) ∧
    (p.charge.state = .equalize →
      (p.charge.source = .none → p.handle e .examine = ({ u with charge := { u.charge with
        equalizePending := true } } : Plant).changePlant e .discharge) ∧
      (p.charge.source ≠ .none →
        (o = true ∨ w = true → p.handle e .examine = ({ u with charge := { u.charge with
          equalizePending := false, equalizeCount := 0 } } : Plant).changePlant e .float) ∧
        (o = false → w = false →
          (valid = false ∨ lets = false → p.handle e .examine = ({ u with charge := { u.charge with
            equalizePending := true } } : Plant).changePlant e .float) ∧
          (valid = true → lets = true → p.handle e .examine = { u with charge := { u.charge with
            dischargeDebounce := p.charge.dischargeDebounce.while e.now (sec e.tables.plant.debounce)
              (decide (p.battery.iBat ≤ -(e.tables.plant.dischargeThreshold : Int))) } }))))) ∧
  (∀ (now length : Nat) (t : Timer), t.while now length false = .stopped ∧
    (t = .stopped → t.while now length true = .running now length) ∧
    (t ≠ .stopped → t.while now length true = t)) ∧
  (∀ (e : Env) (p u : Plant), u = { p with charge := { p.charge with
      iLim := ((p.reportingStrings.map fun i =>
        e.tables.strings[i].capacity * e.tables.profile.chargeRate).sum / 10 : Nat) } } →
    (p.charge.stateChanged = true → p.handle e .evaluationTail = u) ∧
    (p.charge.stateChanged = false →
      p.handle e .evaluationTail = ((u.trimStep e).workSetpoint e).post [.chargeConds])) ∧
  (∀ (e : Env) (p : Plant) (c : Charge), c = p.charge →
    p.handle e .chargeConds = ((((((p.setCond e 4 (decide (c.state = .discharge))).setCond e 5
      (decide (c.state ≠ .startUp ∧ c.mains = false))).setCond e 11 c.highTemp).setCond e 12
      c.overTemp).setCond e 14 c.boostTimeout).setCond e 24 (decide (c.trim < 0))) ∧
    p.handle e .workSetpoint = p.workSetpoint e) ∧
  (∀ (e : Env) (s : PlantState) (p q : Plant) (x : Profile) (t comp : Int) (v : Nat),
    q = p.changePlant e s → x = e.tables.profile → x.busMin ≤ x.busMax →
    v = (match s with
      | .startUp | .float | .discharge => x.floatCell
      | .boost => x.boostCell
      | .equalize => x.equalizeCell
      | .test => x.testCell) →
    t = (if p.charge.overTemp then x.clampHigh else min (max p.battery.tComp x.clampLow) x.clampHigh) →
    comp = (if s = .test then 0 else (x.k * (t - x.tRef)).tdiv 10) →
    q.charge.tUsed = t ∧ q.charge.compensation = comp ∧
    (q.charge.base * 1000 - 500 ≤ x.cells * (v * 1000 + comp) ∧
      x.cells * (v * 1000 + comp) < q.charge.base * 1000 + 500) ∧
    (q.charge.base ≤ x.busMin → q.charge.setpoint = x.busMin) ∧
    ((x.busMin : Int) ≤ q.charge.base → q.charge.base ≤ x.busMax →
      (q.charge.setpoint : Int) = q.charge.base) ∧
    ((x.busMax : Int) ≤ q.charge.base → q.charge.setpoint = x.busMax) ∧
    q.charge.mains = p.charge.mains ∧ q.charge.overTemp = p.charge.overTemp ∧
    q.charge.highTemp = p.charge.highTemp ∧ q.charge.iLim = p.charge.iLim ∧
    q.charge.taperCurrent = p.charge.taperCurrent ∧
    q = { p with
      charge := q.charge
      test := if s = .test ∧ p.test.outcome = .running then
        { p.test with voltage := q.charge.setpoint } else p.test
      alarms := (p.setCond e 24 false).alarms
      agenda := q.agenda })

/-- 06 R121, R123, R127 to R130: the test's end on its duration, and the expiries and examinations of load
disconnect, in RECONNECT_PENDING too, with the LD output (09 R184) and the comparison of its feedback
(R130). 06 R122, R123: how any end closes a test: the duration stopped, the seconds and the outcome set,
TEST_FAILED handed, and the plant then taken to FLOAT; the aborts by source, run state and alarm, the
failure by bus voltage, and the charge removed. Conditions 3, 17 and 31 as they are handed (R123, R129,
R130), and a pending scheduled test begins where its start conditions hold (R118). Where one handing from
string accounting ends a test in several ways, the order in which its readers take it decides, the model's
choice (log entry 54). The order of the conditions, and of what a change of load-disconnect state hands on,
is its choice too (log entries 57 and 65). -/
def Obligations.TestAndDisconnectTimersExpire : Prop :=
  (∀ (s u : State) (start length : Nat), u = s.bringTo (start + length) →
    (s.plant.test.duration = .running start length → s.plant.test.outcome = .running →
      exec .testDurationExpiry s = .next ((u.withPlant ((({ u.plant with
        test := { u.plant.test with
          duration := .stopped, seconds := (u.env.now - u.plant.test.started) / 1000
          outcome := .passed } }).setCond u.env 17 u.plant.test.failed).changePlant u.env .float)).finish)) ∧
    (s.plant.ld.disconnect = .running start length → s.plant.ld.state = .disconnectPending →
      exec .disconnectDelayExpiry s = .next ((u.withPlant (({ u.plant with
        ld := { u.plant.ld with
          state := .disconnected, disconnect := .stopped, reconnect := .stopped }
        outputs := { u.plant.outputs with ld := true } }).post
          (if u.plant.outputs.ld then [.testConds, .testAbort .abortedAlarm, .ldExam]
            else [.ldCompare, .testConds, .testAbort .abortedAlarm, .ldExam]))).finish)) ∧
    (s.plant.ld.reconnect = .running start length → s.plant.ld.state = .reconnectPending →
      exec .reconnectDelayExpiry s = .next ((u.withPlant (({ u.plant with
        ld := { u.plant.ld with state := .connected, disconnect := .stopped, reconnect := .stopped }
        outputs := { u.plant.outputs with ld := false } }).post
          (if u.plant.outputs.ld then [.ldCompare, .testConds, .ldExam] else [.testConds,
            .ldExam]))).finish)) ∧
    (s.plant.ld.mismatchTimer = .running start length →
      exec .mismatchTimerExpiry s = .next ((u.withPlant (({ u.plant with
        ld := { u.plant.ld with mismatchTimer := .stopped, mismatch := true } }).post
          [.testConds])).finish))) ∧
  (∀ (e : Env) (p : Plant) (low : Prop),
    low = ((∃ v, p.battery.busVoltage = some v ∧ v ≤ e.tables.loadDisconnect.disconnectVoltage) ∨
      (e.tables.loadDisconnect.disconnectSoc ≠ 0 ∧ p.charge.state = .discharge ∧
        p.battery.weakestSoc ≤ e.tables.loadDisconnect.disconnectSoc ∧
        p.gen.run ≠ .cranking ∧ p.gen.run ≠ .rest ∧ p.gen.run ≠ .warmup)) →
    (p.ld.state = .connected →
      (low → (p.ldExam e).ld.state = .disconnectPending ∧ (p.ldExam e).ld.disconnect =
        .running e.now (sec e.tables.loadDisconnect.disconnectDelay)) ∧
      (¬ low → p.ldExam e = p)) ∧
    (p.ld.state = .disconnectPending →
      (low → p.ldExam e = p) ∧ (¬ low → (p.ldExam e).ld.state = .connected)) ∧
    (p.ld.state = .disconnected → ∀ may : Prop,
      may = (∃ v, p.battery.busVoltage = some v ∧ e.tables.loadDisconnect.reconnectVoltage ≤ v ∧
        p.charge.source ≠ .none) →
      (may → (p.ldExam e).ld.state = .reconnectPending ∧ (p.ldExam e).outputs.ld = false ∧
        (p.ldExam e).ld.reconnect =
          .running e.now (sec e.tables.loadDisconnect.reconnectDelay)) ∧
      (¬ may → p.ldExam e = p))) ∧
  (∀ (e : Env) (o : TestOutcome) (p : Plant),
    (p.test.outcome ≠ .running → p.handle e (.testAbort o) = p) ∧
    (p.test.outcome = .running → ∀ t : Test,
      t = { p.test with
        duration := .stopped, seconds := (e.now - p.test.started) / 1000, outcome := o
        failed := p.test.failed || o == .failed } →
      p.handle e (.testAbort o) =
        (({ p with test := t } : Plant).setCond e 17 t.failed).changePlant e .float)) ∧
  (∀ (e : Env) (p : Plant),
    p.handle e .testSource =
      (if p.charge.source = .mains then p else p.handle e (.testAbort .abortedMains)) ∧
    p.handle e .testRun =
      (if p.gen.run = .off then p else p.handle e (.testAbort .abortedGenerator)) ∧
    (∀ v, p.battery.busVoltage = some v → p.test.outcome = .running → ∀ u : Plant,
      u = { p with test := { p.test with
        minBus := some (min (p.test.minBus.getD v) v)
        threshold := e.tables.profile.cells * e.tables.profile.testFailCell } } →
      (v ≤ e.tables.profile.cells * e.tables.profile.testFailCell →
        p.handle e .testVoltage = u.handle e (.testAbort .failed)) ∧
      (e.tables.profile.cells * e.tables.profile.testFailCell < v → p.handle e .testVoltage = u)) ∧
    (p.battery.busVoltage = none ∨ p.test.outcome ≠ .running → p.handle e .testVoltage = p) ∧
    (∀ d : Int, p.handle e (.testCharge d) = if p.test.outcome = .running then
      { p with test := { p.test with removed := p.test.removed + d } } else p)) ∧
  (∀ (e : Env) (p : Plant) (low may : Prop), p.ld.state = .reconnectPending →
    low = (p.charge.source = .none ∨
      ∃ v, p.battery.busVoltage = some v ∧ v ≤ e.tables.loadDisconnect.disconnectVoltage) →
    may = (∃ v, p.battery.busVoltage = some v ∧ e.tables.loadDisconnect.reconnectVoltage ≤ v) →
    (low → (p.handle e .ldExam).ld = { p.ld with
        state := .disconnected, disconnect := .stopped, reconnect := .stopped } ∧
      (p.handle e .ldExam).outputs.ld = true) ∧
    (¬ low → may → p.handle e .ldExam = { p with ld := { p.ld with
      reconnect := if p.ld.reconnect = .stopped then
        .running e.now (sec e.tables.loadDisconnect.reconnectDelay) else p.ld.reconnect } }) ∧
    (¬ low → ¬ may → p.handle e .ldExam = { p with ld := { p.ld with reconnect := .stopped } })) ∧
  (∀ (e : Env) (p q : Plant), q = p.handle e .ldCompare →
    (e.hasInput .ldFeedback = false ∨ e.inputLevel .ldFeedback = p.outputs.ld →
      q = ({ p with ld := { p.ld with mismatchTimer := .stopped, mismatch := false } } : Plant).post
        [.testConds]) ∧
    (e.hasInput .ldFeedback = true → e.inputLevel .ldFeedback ≠ p.outputs.ld →
      q = ({ p with ld := { p.ld with mismatchTimer :=
        if p.ld.mismatchTimer = .stopped then .running e.now 5000
        else p.ld.mismatchTimer } } : Plant).post [.testConds])) ∧
  (∀ (e : Env) (p : Plant),
    p.handle e .testConds = ((p.setCond e 3 (decide (p.ld.state = .disconnected))).setCond e 17
      p.test.failed).setCond e 31 p.ld.mismatch ∧
    (p.test.pending = true → p.testMayStart e = true →
      p.handle e .scheduledTest = p.testBegin e .schedule) ∧
    (p.test.pending = false ∨ p.testMayStart e = false → p.handle e .scheduledTest = p))

/-- 07 R137, R139, R140, R142, R143, R145 and R152: what the rectifier duty unit's timers do at their
expiry, and what a fault entry does. 07 R142 to R145: a sizing step: the target by load, raise, shed wait
and SHORT_CAPACITY, the target applied, the walk-in joined and left, the reconciliation (R150). 07 R138: a
place left in the active set is filled. 07 R146, R147: a change of source, of plant state (the end of
START_UP among them) and of run state. That the target is applied against the set as it stands at the end of
START_UP is the model's choice (log entry 40), and the wait of a stagger keeps the field it was started with
(R136, R146). A fault entry, whole: the record's place in its collections, its SET_STATE STANDBY offered in
AUTO outside START_UP, then the refill and the conditions (R137, steps 3 to 5). Conditions 6 to 9 as they
are handed (R154). That at a sizing expiry the step comes before a pending rotation is the model's choice
(log entry 46). That SHORT_CAPACITY stays as last worked out at a change of source to NONE, until the next
sizing step, is its choice too (log entry 55). So are the order in which a reconciliation goes through the
records, and that of the conditions (log entries 57 and 58). That a record's SET_OUTPUT is composed after
every SET_STATE of the same action, but for the reconciliation, which follows it (R142), is the model's
choice too (log entry 66). -/
def Obligations.RectifierTimersExpire : Prop :=
  (∀ (s u : State) (start length : Nat), u = s.bringTo (start + length) →
    (s.plant.rect.sizing = .running start length →
      exec .sizingTimerExpiry s = .next ((u.withPlant (({ u.plant with
        rect := { u.plant.rect with
          sizing := .running u.env.now (sec u.env.tables.rectifier.sizingPeriod) } }).post
            (if s.env.mode = Mode.auto then [.sizingStep,
              .rotationExam] else [.sizingStep]))).finish)) ∧
    (s.plant.rect.shed = .running start length →
      exec .shedTimerExpiry s = .next ((u.withPlant { u.plant with
        rect := { u.plant.rect with shed := .stopped, shedDue := true } }).finish)) ∧
    (s.plant.rect.refresh = .running start length →
      exec .refreshExpiry s = .next ((u.withPlant (({ u.plant with
        rect := { u.plant.rect with
          refresh := .running u.env.now (sec u.env.tables.plant.refresh) } }).post
            [.compose (indices 12)])).finish)) ∧
    (s.plant.rect.stagger = .running start length → ∀ (x : RectIx) (rest : List RectIx) (p : Plant),
      s.plant.rect.walkIn = x :: rest →
      p = ({ u.plant with rect := { u.plant.rect with stagger := .stopped } } : Plant).becomeActive u.env x →
      exec .staggerExpiry s = .next ((u.withPlant (if p.rect.walkIn = [] then p else { p with
        rect := { p.rect with
          stagger := .running u.env.now (sec
            (if u.plant.charge.source = .mains then u.env.tables.rectifier.staggerMains
              else u.env.tables.rectifier.staggerGenerator))
          staggerMains := u.plant.charge.source == .mains } })).finish) ∧
      p.rect.status x = .active ∧ p.rect.walkIn = rest.filter (fun y => y != x) ∧
      p.rect.duty = s.plant.rect.duty ∧ [Signal.busVoltage, .compose [x]] <:+ p.agenda) ∧
    (∀ x : RectIx, s.plant.rect.records[x].follow = .running start length →
      (s.plant.rect.status x).onDuty = true →
      exec (.followTimerExpiry x) s =
        .next ((u.withPlant (u.plant.faultEntry u.env x .notFollowing)).finish)) ∧
    (∀ x : RectIx, s.plant.rect.records[x].recovery = .running start length →
      s.plant.rect.status x = .faulted ∨ s.plant.rect.status x = .lost → ∀ p : Plant,
      p = u.plant.joinStandby x →
      exec (.recoveryTimerExpiry x) s = .next ((u.withPlant p).finish) ∧
      p.rect.status x = .standby ∧ p.rect.duty = u.plant.rect.duty.filter (fun y => y != x) ++ [x] ∧
      p.rect.out = u.plant.rect.out.filter (fun y => y != x) ∧
      p.rect.records[x].recovery = .stopped ∧ p.agenda = u.plant.agenda ++ [.floor, .rectConds])) ∧
  (∀ (e : Env) (x : RectIx) (cause : FaultCause) (p q : Plant) (h : List Nat),
    q = p.faultEntry e x cause → (∀ t ∈ p.rect.records[x].history, t ≤ e.now) →
    p.rect.records[x].history.length ≤ 3 →
    h = p.rect.records[x].history.filter (fun t =>
      decide (e.now ≤ t + hours e.tables.rectifier.lockoutWindow)) ++ [e.now] →
    q.rect.records[x].history = (if h.length ≤ 3 then h else h.tail) ∧
    q.rect.status x = (if 3 ≤ h.length then .lockedOut else .faulted) ∧
    q.rect.records[x].lastCause = cause ∧
    q.rect.records[x].follow = .stopped ∧ q.rect.records[x].recovery = .stopped ∧
    x ∉ q.rect.duty ∧ x ∉ q.rect.walkIn ∧ q.rect.out.getLast? = some x ∧ q.rect.inFlight ≠ some x ∧
    (∀ y : RectIx, y ≠ x → q.rect.records[y] = p.rect.records[y]) ∧
    q.charge = p.charge ∧ q.strings = p.strings ∧ q.alarms = p.alarms ∧ q.outputs = p.outputs) ∧
  (∀ (e : Env) (u : RectIx) (p q : Plant), q = p.becomeActive e u →
    q.rect = { p.rect with
      records := put p.rect.records u { p.rect.records[u] with status := .active }
      walkIn := p.rect.walkIn.filter (fun v => v != u)
      stagger := if p.rect.walkIn.filter (fun v => v != u) =
        [] then .stopped else p.rect.stagger } ∧
    q = ((({ p with rect := q.rect } : Plant).offerState e u true)).post [.busVoltage,
      .compose [u]]) ∧
  (∀ (e : Env) (u : RectIx) (a : Bool) (p : Plant),
    (p.canOrder e = true ↔ e.mode = .auto ∧ p.charge.state ≠ .startUp) ∧
    (p.canOrder e = true → ∀ st : Station, e.rectStation u = some st →
      p.offerState e u a = p.offer ⟨st, .setState a, 0, .rect u⟩) ∧
    (p.canOrder e = false → p.offerState e u a = p)) ∧
  (∀ (e : Env) (u : RectIx) (p : Plant), u ∉ p.rect.walkIn →
    (p.charge.source = .none ∨ (∀ x : RectIx, p.rect.status x ≠ .active) →
      p.joinWalkIn e u = p.becomeActive e u) ∧
    (p.charge.source ≠ .none → (∃ x : RectIx, p.rect.status x = .active) →
      p.joinWalkIn e u = { p with
        rect := p.rect.enqueue e.tables.rectifier e.now p.charge.source u }) ∧
    (∀ (t : RectTable) (now : Nat) (s : Source) (r : RectUnit), r = p.rect.enqueue t now s u →
      r.records = put p.rect.records u { p.rect.records[u] with status := .walkingIn } ∧
      r.walkIn = p.rect.walkIn ++ [u] ∧ r.duty = p.rect.duty ∧ r.target = p.rect.target ∧
      (p.rect.walkIn = [] → r.staggerMains = (s == .mains) ∧
        r.stagger = .running now (sec (if s =
          .mains then t.staggerMains else t.staggerGenerator))) ∧
      (p.rect.walkIn ≠ [] → p.rect.stagger.isRunning = true →
        r.stagger = p.rect.stagger ∧ r.staggerMains = p.rect.staggerMains))) ∧
  (∀ (e : Env) (u : RectIx) (p : Plant) (r : RectUnit), r = { p.rect with
      records := put p.rect.records u { p.rect.records[u] with status := .standby }
      walkIn := p.rect.walkIn.filter (fun v => v != u)
      stagger := if p.rect.walkIn.filter (fun v => v != u) =
        [] then .stopped else p.rect.stagger } →
    p.demote e u = if p.rect.status u =
      .active then ({ p with rect := r } : Plant).offerState e u false
      else { p with rect := r }) ∧
  (∀ (e : Env) (target : Nat) (p q : Plant) (set standbys : List RectIx), q =
    p.applyTarget e target →
    set = p.rect.duty.filter (fun u => p.rect.status u == .active || p.rect.status u == .walkingIn) →
    standbys = p.rect.duty.filter (fun u => p.rect.status u == .standby) →
    ∀ v : Plant,
      v = (if set.length < target then (standbys.take (target - set.length)).foldl (Plant.joinWalkIn e) p
        else (set.reverse.take (set.length - target)).foldl (Plant.demote e) p) →
      q = { v with
        rect := { v.rect with target := target }
        agenda := v.agenda ++ if set.length = target then [] else [.busVoltage, .compose []] }) ∧
  (∀ (e : Env) (p : Plant),
    (p.canOrder e = false ∨ p.rect.inFlight ≠ none → p.handle e .sizingStep = p) ∧
    (p.canOrder e = true → p.rect.inFlight = none → ∀ (v : Plant) (target : Nat),
      p.workTarget e = (v, target) →
      p.handle e .sizingStep = (v.applyTarget e target).post [.reconcile, .rectConds])) ∧
  (∀ (e : Env) (p : Plant) (elig n i : Nat) (t : RectTable) (clamp : Nat →
    Nat), t = e.tables.rectifier →
    elig = p.rect.duty.length →
    n = (p.rect.duty.filter fun u => p.rect.status u == .active || p.rect.status u == .walkingIn).length →
    i = ((p.rect.duty.filter fun u => p.rect.status u == .active).map fun u =>
      match p.rect.records[u].report with
      | some x => x.current
      | none => 0).sum →
    (clamp = fun x => min (max x (min t.nMin elig)) elig) →
    (p.charge.state ≠ .float ∨ p.charge.source ≠ .mains → p.workTarget e =
      ({ p with rect := { p.rect with
      shortCapacity := p.charge.source != .none && elig == 0 } }, elig)) ∧
    (p.charge.state = .float → p.charge.source = .mains →
      (elig = 0 → p.workTarget e = ({ p with rect := { p.rect with
        shortCapacity := true, shed := .stopped, shedDue := false } }, 0)) ∧
      (∀ (rated q : Nat) (due : Bool) (load : Int) (big small : Prop), 0 < t.shareHigh → elig ≠ 0 →
        (∃ u ∈ p.rect.duty, ∃ x, p.rect.records[u].report = some x ∧ x.rated = rated) →
        (∀ u ∈ p.rect.duty, ∀ x, p.rect.records[u].report = some x → 0 < x.rated ∧
          rated ≤ x.rated) →
        q = (i * 100 + rated * t.shareHigh - 1) / (rated * t.shareHigh) + t.redundancy →
        due = (p.rect.shedDue || p.rect.shed.isOver e.now) → load = i * 100 →
        big = (((n : Int) - t.redundancy) * rated * t.shareHigh < load ∨ (n ≤ t.redundancy ∧
          0 < i)) →
        small = (t.nMin < n ∧ t.redundancy + 2 ≤ n ∧
          load < ((n : Int) - 1 - t.redundancy) * rated * t.shareLow) →
        (big → p.workTarget e = ({ p with rect := { p.rect with
          shortCapacity := decide (elig < q), shed := .stopped, shedDue := false } },
            clamp (min elig q))) ∧
        (¬ big → small → due = true → p.workTarget e = ({ p with rect := { p.rect with
          shortCapacity := false, shed := .stopped, shedDue := false } }, clamp (n - 1))) ∧
        (¬ big → small → due = false → p.workTarget e = ({ p with rect := { p.rect with
          shortCapacity := false
          shed := if p.rect.shed = .stopped then .running e.now (sec t.shedDelay) else p.rect.shed
          shedDue := false } }, clamp n)) ∧
        (¬ big → ¬ small → p.workTarget e = ({ p with rect := { p.rect with
          shortCapacity := false, shed := .stopped, shedDue := false } }, clamp n))))) ∧
  (∀ (e : Env) (p : Plant), p.handle e .reconcile = p.rect.duty.foldl (Plant.reconcileOne e) p ∧
    ∀ u : RectIx,
      (p.rect.status u = .active → p.reconcileOne e u =
        if p.rect.records[u].commanded = some true then p else p.offerState e u true) ∧
      (p.rect.status u = .walkingIn ∨ p.rect.status u = .standby → p.reconcileOne e u =
        if p.rect.records[u].commanded = some false then p else p.offerState e u false)) ∧
  (∀ (e : Env) (p : Plant) (low : Nat), low = min e.tables.rectifier.nMin p.rect.duty.length →
    p.handle e .floor = if p.canOrder e = true ∧
      p.rect.target < low then p.applyTarget e low else p) ∧
  (∀ (e : Env) (was : Bool) (p u v : Plant), u = { p with rect := { p.rect with
      target := min p.rect.target p.rect.duty.length } } →
    (p.canOrder e = false → p.handle e (.refill was) = p.post [.busVoltage]) ∧
    (p.canOrder e = true →
      (was = true → (u.rect.duty.filter fun x =>
          u.rect.status x == .active || u.rect.status x == .walkingIn).length < u.rect.target →
        (∀ x rest, u.rect.walkIn = x :: rest → v = u.becomeActive e x) →
        (∀ x rest, u.rect.walkIn = [] → u.rect.duty.filter (fun x => u.rect.status x == .standby) =
          x :: rest →
          v = u.becomeActive e x) →
        (u.rect.walkIn = [] → u.rect.duty.filter (fun x => u.rect.status x == .standby) = [] →
          v = u) →
        p.handle e (.refill was) = (((v.rect.duty.filter fun x => v.rect.status x == .standby).take
          (v.rect.target - (v.rect.duty.filter fun x =>
            v.rect.status x == .active || v.rect.status x == .walkingIn).length)).foldl
              (Plant.joinWalkIn e) v).post [.busVoltage, .compose []]) ∧
      (was = false ∨ u.rect.target ≤ (u.rect.duty.filter fun x =>
          u.rect.status x == .active || u.rect.status x == .walkingIn).length →
        p.handle e (.refill was) = (((u.rect.duty.filter fun x => u.rect.status x == .standby).take
          (u.rect.target - (u.rect.duty.filter fun x =>
            u.rect.status x == .active || u.rect.status x == .walkingIn).length)).foldl
              (Plant.joinWalkIn e) u).post [.busVoltage, .compose []]))) ∧
  (∀ (e : Env) (old new : Source) (p u : Plant), u = { p with rect := { p.rect with
      shed := .stopped, shedDue := false
      inFlight := if new = .mains then p.rect.inFlight else none
      target := if new = .mains ∨ p.rect.inFlight = none then p.rect.target else
        (p.rect.duty.filter fun x => p.rect.status x == .active || p.rect.status x == .walkingIn).length } } →
    (p.canOrder e = false ∨ (new ≠ .none ∧ old ≠ .none) → p.handle e (.rectSource old new) = u) ∧
    (p.canOrder e = true → new = .none → p.handle e (.rectSource old new) =
      (p.rect.duty.filter fun x => p.rect.status x == .walkingIn).foldl (fun v x => v.becomeActive e x) u) ∧
    (p.canOrder e = true → new ≠ .none → old = .none → ∀ rest : List RectIx,
      rest = p.rect.duty.filter (fun x => p.rect.status x == .active && some x != p.rect.duty.head?) →
      ∀ v : Plant, v = rest.foldl (fun v x => ({ v with
        rect := v.rect.enqueue e.tables.rectifier e.now new x } : Plant).offerState e x false) u →
      p.handle e (.rectSource old new) = if rest = [] then v else v.post [.busVoltage,
        .compose []])) ∧
  (∀ (e : Env) (old new : PlantState) (p u : Plant), u = { p with rect := { p.rect with
      shed := .stopped, shedDue := false
      inFlight := if new = .float then p.rect.inFlight else none
      target := if new = .float ∨ p.rect.inFlight = none then p.rect.target else
        (p.rect.duty.filter fun x => p.rect.status x == .active || p.rect.status x == .walkingIn).length } } →
    (old = .startUp → new ≠ .startUp → p.handle e (.rectPlant old new) =
      ({ u with rect := { u.rect with
      sizing := .running e.now (sec e.tables.rectifier.sizingPeriod)
      refresh := .running e.now (sec e.tables.plant.refresh) } } : Plant).post [.sizingStep]) ∧
    (old ≠ .startUp ∨ new = .startUp → p.handle e (.rectPlant old new) = u)) ∧
  (∀ (e : Env) (p : Plant), p.handle e .rectRun = if p.gen.run = .off ∨
    p.rect.inFlight = none then p else
    { p with rect := { p.rect with
      inFlight := none
      target := (p.rect.duty.filter fun x =>
        p.rect.status x == .active || p.rect.status x == .walkingIn).length } }) ∧
  (∀ (e : Env) (u : RectIx) (cause : FaultCause) (p m : Plant) (old s : RectStatus) (h : List Nat)
    (w : List RectIx), old = p.rect.status u → h =
      (p.faultEntry e u cause).rect.records[u].history →
    s = (p.faultEntry e u cause).rect.status u →
    w = p.rect.walkIn.filter (fun v => v != u) → m = { p with rect := { p.rect with
      records := put p.rect.records u { p.rect.records[u] with
        status := s, history := h, lastCause := cause, follow := .stopped, recovery := .stopped }
      walkIn := w
      stagger := if w = [] then .stopped else p.rect.stagger
      duty := p.rect.duty.filter fun v => v != u
      out := p.rect.out.filter (fun v => v != u) ++ [u]
      inFlight := if p.rect.inFlight = some u then none else p.rect.inFlight } } →
    p.faultEntry e u cause = (m.offerState e u false).post
      ((if old = .active ∨ old = .walkingIn then [.refill (old == .active)] else []) ++
        [.rectConds])) ∧
  (∀ (e : Env) (p : Plant) (faulted lost : Nat),
    faulted = (List.finRange 12).countP (fun u => p.rect.records[u].status == .faulted) →
    lost = (List.finRange 12).countP (fun u => p.rect.records[u].status == .lost) →
    p.handle e .rectConds = (((p.setCond e 6 (decide (0 < faulted))).setCond e 7
      (decide (2 ≤ faulted + lost))).setCond e 8 (decide (0 < lost))).setCond e 9 p.rect.shortCapacity) ∧
  (∀ (e : Env) (u : RectIx) (a : Bool) (p : Plant), e.rectStation u = none → p.offerState e u a = p)

/-- 08 R161, R165 to R170, R172: what the generator run unit's timers do at their expiry, what a failure
does (R170), and what a change of run state does (R174), each state's timer and the ENGINE START of CRANKING
(R172) among it. 08 R166: the crank expiry with the mains mark set. 08 R161, R162: the examination of the
start reasons, and a change of source. 08 R165, R167, R168: what each run state does about its reasons. 08
R173: the indication of contact-only operation (levels: log entry 17). 08 R163: a due exercise is added and
a reached duration removes it. The model's choices: the second warm-up period's end in contact-only
operation leads to ON_LOAD (log entry 18), the discharge-time timer does not start in DISABLED (log entry
42), an EXERCISE removed at once leaves COOLDOWN standing (log entry 43), and the count is 0 when EXERCISE
is added (log entry 14). A failure, whole: its cause and flags, ENGINE STOP offered, and the state entered
(R170). Conditions 18 to 23 as they are handed (R160, R174), and a RESET no longer outstanding (R171). A
removal of the automatic reasons stops the low-voltage timer even where none was in the set, the model's
choice (log entry 15); only a running run time is compared with the exercise duration, its reading (log
entry 19). R168: the run time starts at the first ON_LOAD of a start cycle, goes on through COOLDOWN and
back, and stops at STOPPING and at a failure; what DISABLED and OFF leave of it, the start failure's flags,
and that nothing else of the unit changes. The order of the conditions, and of the readers of a change of
run state, is the model's choice (log entries 57 and 65). -/
def Obligations.GeneratorTimersExpire : Prop :=
  (∀ (s u : State) (start length : Nat), u = s.bringTo (start + length) →
    (s.plant.charge.state ≠ .startUp → s.plant.gen.run ≠ .disabled →
      (s.plant.gen.lowVoltage = .running start length →
        exec .lowVoltageTimerExpiry s = .next ((u.withPlant (({ u.plant with
          gen := { u.plant.gen with
            lowVoltage := .stopped, reasons :=
              { u.plant.gen.reasons with lowVoltage := true } } }).post
              [.actOnReasons])).finish)) ∧
      (s.plant.gen.dischargeTime = .running start length →
        exec .dischargeTimeExpiry s = .next ((u.withPlant (({ u.plant with
          gen := { u.plant.gen with
            dischargeTime := .stopped
            reasons := { u.plant.gen.reasons with dischargeTime := true } } }).post
              [.actOnReasons])).finish))) ∧
    (s.plant.gen.crank = .running start length → s.plant.gen.run = .cranking →
      s.plant.gen.mainsMark = false →
      (s.plant.gen.reasons.isEmpty = true → exec .crankExpiry s =
        .next ((u.withPlant ((u.plant.offerEngine u.env .stop).enterRun u.env .stopping)).finish)) ∧
      (s.plant.gen.reasons.isEmpty = false →
        (s.plant.gen.attempts < s.plant.gen.cycleLimit → exec .crankExpiry s =
          .next ((u.withPlant ((u.plant.offerEngine u.env .stop).enterRun u.env .rest)).finish)) ∧
        (s.plant.gen.cycleLimit ≤ s.plant.gen.attempts → exec .crankExpiry s =
          .next ((u.withPlant (u.plant.genFailure u.env .start)).finish)))) ∧
    (s.plant.gen.rest = .running start length → s.plant.gen.run = .rest → exec .restExpiry s =
      .next ((u.withPlant (u.plant.enterCranking u.env (s.plant.gen.attempts + 1))).finish)) ∧
    (s.plant.gen.warmup = .running start length → s.plant.gen.run = .warmup →
      (s.plant.gen.status ≠ .reporting ∨ s.plant.gen.available = true → exec .warmupExpiry s =
        .next ((u.withPlant (u.plant.enterRun u.env .onLoad)).finish)) ∧
      (s.plant.gen.status = .reporting → s.plant.gen.available = false → exec .warmupExpiry s =
        .next ((u.withPlant { u.plant with gen := { u.plant.gen with
          warmup := .stopped
          warmupSecond := .running u.env.now (sec u.env.tables.genset.warmup) } }).finish))) ∧
    (s.plant.gen.warmupSecond = .running start length → s.plant.gen.run = .warmup →
      (s.plant.gen.status = .reporting → exec .warmupSecondExpiry s =
        .next ((u.withPlant (u.plant.genFailure u.env .run)).finish)) ∧
      (s.plant.gen.status ≠ .reporting → exec .warmupSecondExpiry s =
        .next ((u.withPlant (u.plant.enterRun u.env .onLoad)).finish))) ∧
    (s.plant.gen.cooldown = .running start length → s.plant.gen.run = .cooldown →
      exec .cooldownExpiry s =
        .next ((u.withPlant ((u.plant.offerEngine u.env .stop).enterRun u.env .stopping)).finish)) ∧
    (s.plant.gen.stopConfirm = .running start length → s.plant.gen.run = .stopping →
      (s.plant.gen.status ≠ .reporting → s.env.hasInput .genFeedback = false →
        exec .stopConfirmExpiry s = .next ((u.withPlant (u.plant.enterRun u.env .off)).finish)) ∧
      (s.plant.gen.status = .reporting ∨ s.env.hasInput .genFeedback = true →
        exec .stopConfirmExpiry s =
          .next ((u.withPlant (u.plant.genFailure u.env .stop)).finish))) ∧
    (s.plant.gen.retry = .running start length → s.plant.gen.run = .failed →
      exec .retryExpiry s = .next ((u.withPlant (({ u.plant with
        gen := { u.plant.gen with retry := .stopped, retryDue := true } }).post
          [.actOnReasons])).finish))) ∧
  (∀ (e : Env) (cause : GenCause) (p q : Plant), q = p.genFailure e cause →
    q.gen.lastCause = cause ∧
    q.gen.startFailed = (p.gen.startFailed || cause == .start) ∧
    q.gen.engineFailure = (p.gen.engineFailure || cause == .run || cause == .stop) ∧
    q.gen.run = (if p.gen.failedSinceRun then .lockedOut else .failed) ∧
    q.gen.failedSinceRun = true ∧ q.gen.allowance = none ∧ q.outputs.genRun = false ∧
    q.gen.runStart = none ∧ q.gen.reasons = p.gen.reasons) ∧
  (∀ (e : Env) (x : RunState) (p q : Plant), q = p.enterRun e x →
    q.gen.run = x ∧ q.gen.since = e.now ∧ q.gen.reasons = p.gen.reasons ∧
    q.gen.attempts = p.gen.attempts ∧ q.gen.mainsMark = false ∧ q.gen.retryDue = false ∧
    q.outputs.genRun = (x == .cranking || x == .warmup || x == .onLoad || x == .cooldown) ∧
    q.outputs.ld = p.outputs.ld ∧ q.outputs.relays = p.outputs.relays ∧ q.charge = p.charge ∧
    (x = .onLoad → p.gen.loaded = false → q.gen.startFailed = false ∧ q.gen.engineFailure = false ∧
      q.gen.failedSinceRun = false ∧ q.gen.runStart = some e.now) ∧
    [Signal.workSource, .testRun, .ldExam, .rectRun, .genConds, .exerciseCheck, .actOnReasons] <:+
      q.agenda) ∧
  ((∀ (s u : State) (start length : Nat), u = s.bringTo (start + length) →
      s.plant.gen.crank = .running start length → exec .crankExpiry s = .next ((u.withPlant
        (({ u.plant with gen := { u.plant.gen with crank := .stopped } } : Plant).crankEnds u.env)).finish)) ∧
    (∀ (e : Env) (p m : Plant),
      (p.gen.mainsMark = false → m = p) →
      (p.gen.mainsMark = true → m = { p with gen := { p.gen with
        mainsMark := false, lowVoltage := .stopped
        reasons := ⟨false, false, false, p.gen.reasons.exercise, p.gen.reasons.manual⟩ } }) →
      (p.gen.run ≠ .cranking → p.crankEnds e = p) ∧
      (p.gen.run = .cranking →
        (m.gen.reasons = ⟨false, false, false, false, false⟩ →
          p.crankEnds e = (m.offerEngine e .stop).enterRun e .stopping) ∧
        (m.gen.reasons ≠ ⟨false, false, false, false, false⟩ →
          (p.gen.attempts < p.gen.cycleLimit → p.crankEnds e =
            (m.offerEngine e .stop).enterRun e .rest) ∧
          (p.gen.cycleLimit ≤ p.gen.attempts → p.crankEnds e = m.genFailure e .start))))) ∧
  (∀ (e : Env) (a : EngineAction) (p : Plant),
    (p.gen.status ≠ .reporting ∨ e.gensetStation = none → p.offerEngine e a = p) ∧
    (∀ st, p.gen.status = .reporting → e.gensetStation = some st →
      p.offerEngine e a = p.offer ⟨st, .engine a, 0, .gen⟩)) ∧
  (∀ (e : Env) (x : RunState) (p q : Plant) (t : GensetTable), q = p.enterRun e x →
    t = e.tables.genset →
    q.gen.crank = (if x = .cranking then .running e.now (sec t.crankTime) else .stopped) ∧
    q.gen.rest = (if x = .rest then .running e.now (sec t.rest) else .stopped) ∧
    q.gen.warmup = (if x = .warmup then .running e.now (sec t.warmup) else .stopped) ∧
    q.gen.warmupSecond = .stopped ∧
    q.gen.cooldown = (if x = .cooldown then .running e.now (sec t.cooldown) else .stopped) ∧
    q.gen.stopConfirm = (if x = .stopping then .running e.now (sec t.stopConfirm) else .stopped) ∧
    q.gen.retry = (if x = .failed ∧
      t.retryInterval ≠ 0 then .running e.now (sec t.retryInterval) else .stopped) ∧
    q.gen.cycleLimit = p.gen.cycleLimit ∧ q.gen.dropped = none ∧
    q.gen.allowance = t.allowanceAt x p.charge.setpoint ∧
    (p.gen.allowance ≠ q.gen.allowance → Signal.compose [] ∈ q.agenda) ∧
    q.queue = (if x = .cranking then (p.offerEngine e .start).queue else p.queue) ∧
    (∀ n : Nat, p.enterCranking e n = ({ p with gen := { p.gen with
      attempts := n
      cycleLimit := if n = 1 then t.attempts else p.gen.cycleLimit
      loaded := if n = 1 then false else p.gen.loaded } } : Plant).enterRun e .cranking)) ∧
  (∀ (e : Env) (p : Plant) (empty : Prop), empty = (p.gen.reasons = ⟨false, false, false, false,
    false⟩) →
    (p.gen.run = .off →
      (¬ empty → p.charge.state ≠ .startUp → p.gen.resetOutstanding = false →
        p.handle e .actOnReasons = p.enterCranking e 1) ∧
      (empty ∨ p.charge.state = .startUp ∨ p.gen.resetOutstanding = true →
        p.handle e .actOnReasons = p)) ∧
    (p.gen.run = .cranking ∨ p.gen.run = .warmup →
      (empty → p.handle e .actOnReasons = (p.offerEngine e .stop).enterRun e .stopping) ∧
      (¬ empty → p.handle e .actOnReasons = p)) ∧
    (p.gen.run = .rest → (empty → p.handle e .actOnReasons = p.enterRun e .off) ∧
      (¬ empty → p.handle e .actOnReasons = p)) ∧
    (p.gen.run = .onLoad → ∀ may : Prop,
      may = (p.charge.source = .mains ∨ sec e.tables.genset.minimumRun ≤
        (match p.gen.runStart with | some t => e.now - t | none => p.gen.runTime)) →
      (empty → may → p.handle e .actOnReasons = p.enterRun e .cooldown) ∧
      (¬ empty ∨ ¬ may → p.handle e .actOnReasons = p)) ∧
    (p.gen.run = .cooldown → (¬ empty → p.handle e .actOnReasons = p.enterRun e .onLoad) ∧
      (empty → p.handle e .actOnReasons = p)) ∧
    (p.gen.run = .failed →
      (¬ empty → p.gen.retryDue = true → p.handle e .actOnReasons = p.enterCranking e 1) ∧
      (empty ∨ p.gen.retryDue = false → p.handle e .actOnReasons = p)) ∧
    (p.gen.run = .stopping ∨ p.gen.run = .lockedOut ∨ p.gen.run = .disabled →
      p.handle e .actOnReasons = p)) ∧
  (∀ (e : Env) (p q : Plant), q = p.handle e .reasonExam →
    (p.charge.state = .startUp ∨ p.gen.run = .disabled → q = p) ∧
    (p.charge.state ≠ .startUp → p.gen.run ≠ .disabled → ∀ volts soc : Prop,
      volts = (p.charge.source = .none ∧ ∃ v, p.battery.busVoltage = some v ∧
        v ≤ e.tables.genset.startVoltage) →
      soc = (p.charge.source = .none ∧ e.tables.genset.startSoc ≠ 0 ∧
        p.battery.weakestSoc ≤ e.tables.genset.startSoc) →
      (e.tables.genset.stopSoc ≤ p.battery.weakestSoc → q = { p with
        gen := { p.gen with
          lowVoltage := .stopped
          reasons := ⟨false, false, false, p.gen.reasons.exercise, p.gen.reasons.manual⟩ }
        agenda := p.agenda ++ [.actOnReasons] }) ∧
      (p.battery.weakestSoc < e.tables.genset.stopSoc →
        q = { p with
          gen := { p.gen with
            lowVoltage := q.gen.lowVoltage
            reasons := { p.gen.reasons with lowSoc := q.gen.reasons.lowSoc } }
          agenda := p.agenda ++ [.actOnReasons] } ∧
        (q.gen.reasons.lowSoc = true ↔ p.gen.reasons.lowSoc = true ∨ soc) ∧
        (¬ volts → q.gen.lowVoltage = .stopped) ∧
        (volts → p.gen.reasons.lowVoltage = true → q.gen.lowVoltage = p.gen.lowVoltage) ∧
        (volts → p.gen.reasons.lowVoltage = false →
          (p.gen.lowVoltage = .stopped → q.gen.lowVoltage = .running e.now 30000) ∧
          (p.gen.lowVoltage ≠ .stopped → q.gen.lowVoltage = p.gen.lowVoltage))))) ∧
  (∀ (e : Env) (p : Plant) (ac running : Prop),
    ac = (∃ (u : RectIx) (r : RectReport), p.linkOf (e.rectStation u) = .reporting ∧
      p.rect.records[u].report = some r ∧ r.acOk = true) →
    (e.hasInput .genFeedback = true → running = (e.inputLevel .genFeedback = true)) →
    (e.hasInput .genFeedback = false → e.hasInput .mainsSense = true →
      running = (ac ∧ e.inputLevel .mainsSense = false)) →
    (e.hasInput .genFeedback = false → e.hasInput .mainsSense = false → running = ac) →
    (p.gen.status = .reporting ∨ e.tables.genset.fitted = false → p.handle e .indication = p) ∧
    (p.gen.status ≠ .reporting → e.tables.genset.fitted = true →
      (p.gen.run = .cranking → (running → p.handle e .indication = p.enterRun e .warmup) ∧
        (¬ running → p.handle e .indication = p)) ∧
      (p.gen.run = .warmup ∨ p.gen.run = .onLoad ∨ p.gen.run = .cooldown →
        (running → p.handle e .indication = p) ∧
        (¬ running → p.handle e .indication = p.genFailure e .run)) ∧
      (p.gen.run = .stopping → (running → p.handle e .indication = p) ∧
        (¬ running → p.handle e .indication = p.enterRun e .off)) ∧
      (p.gen.run = .off ∨ p.gen.run = .rest ∨ p.gen.run = .failed ∨ p.gen.run = .lockedOut ∨
        p.gen.run = .disabled → p.handle e .indication = p))) ∧
  (∀ (e : Env) (p : Plant) (may : Prop), may = (p.gen.exerciseDue = true ∧
    p.gen.fuelCritical = false ∧
      p.charge.state ≠ .startUp ∧ p.gen.run ≠ .lockedOut ∧ p.gen.run ≠ .disabled) →
    (¬ may → p.handle e .exerciseCheck = p) ∧
    (may → ∀ reached : Prop, reached = (∃ t, p.gen.runStart = some t ∧
        sec e.tables.genset.exerciseDuration ≤ e.now - t) → ∀ sig : Signal,
      (reached → sig = .exerciseReached) → (¬ reached → sig = .actOnReasons) →
      p.handle e .exerciseCheck = { p with
        gen := { p.gen with
          reasons := { p.gen.reasons with exercise := true }, exerciseDue :=
            false, exerciseCount := 0 }
        agenda := p.agenda ++ [sig] }) ∧
    p.handle e .exerciseReached = { p with
      gen := { p.gen with
        reasons := { p.gen.reasons with exercise := false }, exerciseDue := false, exerciseCount :=
          0 }
      agenda := p.agenda ++ [.actOnReasons] }) ∧
  (∀ (e : Env) (p m : Plant) (old new : Source),
    (old = .mains → m = { p with gen := { p.gen with mainsMark := false } }) → (old ≠ .mains →
      m = p) →
    (new ≠ .mains → p.handle e (.genSource old new) = m.post [.reasonExam, .actOnReasons]) ∧
    (new = .mains → p.gen.run ≠ .cranking ∨ e.hasInput .mainsSense = true →
      p.handle e (.genSource old new) = ({ m with gen := { m.gen with
        lowVoltage := .stopped
        reasons := ⟨false, false, false, p.gen.reasons.exercise,
          p.gen.reasons.manual⟩ } } : Plant).post
          [.reasonExam, .actOnReasons]) ∧
    (new = .mains → p.gen.run = .cranking → e.hasInput .mainsSense = false →
      (p.gen.status ≠ .reporting → e.hasInput .genFeedback = false →
        p.handle e (.genSource old new) = m.post [.indication, .reasonExam, .actOnReasons]) ∧
      (p.gen.status = .reporting ∨ e.hasInput .genFeedback = true →
        p.handle e (.genSource old new) =
          ({ m with gen := { m.gen with mainsMark := true } } : Plant).post [.reasonExam,
            .actOnReasons]))) ∧
  (∀ (e : Env) (p q : Plant) (old new : PlantState), q = p.handle e (.genPlant old new) →
    q = { p with
      gen := { p.gen with
        lowVoltage := if new = .float then .stopped else p.gen.lowVoltage
        reasons := if new = .float then
            ⟨false, false, false, p.gen.reasons.exercise, p.gen.reasons.manual⟩ else p.gen.reasons
        dischargeTime := q.gen.dischargeTime }
      agenda := p.agenda ++ [.reasonExam, .exerciseCheck, .actOnReasons] } ∧
    (new = .discharge → p.charge.state = .discharge → e.tables.genset.maxDischarge ≠ 0 →
      p.gen.run ≠ .disabled →
      q.gen.dischargeTime = .running e.now (hours e.tables.genset.maxDischarge)) ∧
    (new ≠ .discharge → old = .discharge → q.gen.dischargeTime = .stopped) ∧
    (new ≠ .discharge → old ≠ .discharge → q.gen.dischargeTime = p.gen.dischargeTime)) ∧
  (∀ (e : Env) (cause : GenCause) (p m : Plant), m = { p with gen := { p.gen with
      lastCause := cause
      startFailed := p.gen.startFailed || cause == .start
      engineFailure := p.gen.engineFailure || cause == .run || cause == .stop
      failedSinceRun := true } } →
    p.genFailure e cause = (m.offerEngine e .stop).enterRun e
      (if p.gen.failedSinceRun = true then .lockedOut else .failed)) ∧
  (∀ (e : Env) (p : Plant) (g : GenUnit) (code : Bool), g = p.gen →
    code = (match g.report with | some (r, _) => decide (r.fault ≠ 0) | none => false) →
    p.handle e .genConds = (((((p.setCond e 18 g.startFailed).setCond e 19
      (decide (g.run = .warmup ∨ g.run = .onLoad ∨ g.run =
        .cooldown))).setCond e 20 g.fuelLow).setCond e 21
      g.fuelCritical).setCond e 22 (decide (e.tables.genset.fitted = true ∧
        (g.status = .lost ∨ g.status = .absent)))).setCond e 23 (code || g.engineFailure)) ∧
  (∀ (e : Env) (p : Plant), p.handle e .resetEnded = { p with
      gen := { p.gen with resetOutstanding := false }, agenda := p.agenda ++ [.actOnReasons] } ∧
    ∀ (x : RunState) (q : Plant), q = p.enterRun e x →
      q.links = p.links ∧ q.strings = p.strings ∧ q.battery = p.battery ∧ q.test = p.test ∧
      q.ld = p.ld ∧ q.rect = p.rect ∧ q.alarms = p.alarms) ∧
  (∀ (e : Env) (x : RunState) (p q : Plant) (g : GenUnit), q = p.enterRun e x → g = p.gen →
    (x = .stopping ∨ x = .failed ∨ x = .lockedOut ∨ x = .disabled →
      q.gen.runTime = (match g.runStart with | some t => e.now - t | none => g.runTime) ∧
      q.gen.runStart = none) ∧
    (x = .off → q.gen.runTime = 0 ∧ q.gen.runStart = none) ∧
    (x = .cranking ∨ x = .rest ∨ x = .warmup ∨ x = .cooldown →
      q.gen.runTime = g.runTime ∧ q.gen.runStart = g.runStart) ∧
    (x = .onLoad →
      (g.loaded = false → q.gen.runTime = 0 ∧ q.gen.runStart = some e.now) ∧
      (g.loaded = true → q.gen.runTime = g.runTime ∧ q.gen.runStart = g.runStart)) ∧
    q.gen.loaded = (g.loaded || x == .onLoad) ∧
    (x ≠ .onLoad ∨ g.loaded = true → q.gen.startFailed = g.startFailed ∧
      q.gen.engineFailure = g.engineFailure ∧ q.gen.failedSinceRun = g.failedSinceRun) ∧
    q.gen = { g with
      run := x, since := e.now, mainsMark := false, retryDue := false, dropped := none
      crank := q.gen.crank, rest := q.gen.rest, warmup := q.gen.warmup
      warmupSecond := .stopped, cooldown := q.gen.cooldown, stopConfirm := q.gen.stopConfirm
      retry := q.gen.retry, allowance := q.gen.allowance, runTime := q.gen.runTime
      runStart := q.gen.runStart, loaded := q.gen.loaded, startFailed := q.gen.startFailed
      engineFailure := q.gen.engineFailure, failedSinceRun := q.gen.failedSinceRun }) ∧
  (∀ (e : Env) (n : Nat) (p q : Plant), q = p.enterCranking e n →
    q.gen.loaded = (p.gen.loaded && n != 1) ∧ q.gen.attempts = n ∧
    q.gen.runTime = p.gen.runTime ∧ q.gen.runStart = p.gen.runStart)

/-- 05 R93, R102; 06 R115, R118; 07 R147, R154; 08 R163, R168: the interval counts and run times at the
moment they reach their limit, and when each count runs. That a count's row brings the plant clock to that
moment (log entry 1) and that the test, rotation and exercise counts keep their value there (log entry 14)
is the model's choice; that the equalize count is 0 from its expiry is its reading (log entry 13). -/
def Obligations.CountsReachTheirLimits : Prop :=
  (∀ s u : State,
    (s.plant.equalizeCounts s.env = true →
      u = s.advance (hours s.env.tables.plant.equalizeInterval - s.plant.charge.equalizeCount) →
      exec .equalizeIntervalExpiry s = .next ((u.withPlant { u.plant with
        charge := { u.plant.charge with equalizePending := true, equalizeCount := 0 } }).finish)) ∧
    (s.plant.testCounts s.env = true →
      u = s.advance (hours s.env.tables.plant.testInterval - s.plant.test.count) →
      exec .testIntervalExpiry s = .next ((u.withPlant (({ u.plant with
        test := { u.plant.test with pending := true } }).post [.scheduledTest])).finish)) ∧
    (s.plant.rotationCounts s.env = true →
      u = s.advance (hours s.env.tables.rectifier.rotationInterval - s.plant.rect.rotationCount) →
      exec .rotationCountExpiry s = .next ((u.withPlant (({ u.plant with
        rect := { u.plant.rect with rotationPending := true } }).post [.rotationExam])).finish)) ∧
    (s.plant.exerciseCounts s.env = true →
      u = s.advance (hours s.env.tables.genset.exerciseInterval - s.plant.gen.exerciseCount) →
      exec .exerciseCountExpiry s = .next ((u.withPlant (({ u.plant with
        gen := { u.plant.gen with exerciseDue := true } }).post [.exerciseCheck])).finish)) ∧
    (∀ t, s.plant.gen.runStart = some t →
      (u = s.bringTo (t + sec s.env.tables.genset.exerciseDuration) →
        exec .exerciseDurationReached s = .next ((u.withPlant (({ u.plant with
          gen := { u.plant.gen with
            reasons := { u.plant.gen.reasons with exercise := false }
            exerciseDue := false, exerciseCount := 0 } }).post [.actOnReasons])).finish)) ∧
      (u = s.bringTo (t + sec s.env.tables.genset.minimumRun) →
        exec .minimumRunMet s = .next ((u.withPlant (u.plant.post [.actOnReasons])).finish))) ∧
    (∀ x : RectIx, s.plant.rect.records[x].status = .active →
      (∃ r, s.plant.rect.records[x].report = some r ∧ r.acOk = true) →
      s.plant.rect.records[x].carry ≤ 60000 → u =
        s.advance (60000 - s.plant.rect.records[x].carry) →
      ∃ t, exec (.runMinute x) s = .next t ∧ t.env = u.env ∧
        t.plant.rect.records[x] = { s.plant.rect.records[x] with
          carry := 0, minutes := min (s.plant.rect.records[x].minutes + 1) 4294967295 } ∧
        (∀ y : RectIx, y ≠ x → t.plant.rect.records[y] = u.plant.rect.records[y]) ∧
        t.plant.charge = u.plant.charge ∧ t.plant.alarms = u.plant.alarms)) ∧
  (∀ (e : Env) (p : Plant),
    (p.equalizeCounts e = true ↔ e.tables.plant.equalizeInterval ≠ 0 ∧
      p.charge.equalizePending = false ∧ p.charge.state ≠ .equalize) ∧
    (p.testCounts e = true ↔ e.tables.plant.testInterval ≠ 0 ∧ p.test.pending = false) ∧
    (p.rotationCounts e = true ↔ e.tables.rectifier.rotationInterval ≠ 0 ∧
      p.rect.rotationPending = false ∧ p.charge.state = .float ∧ e.mode = .auto ∧
      p.charge.source = .mains ∧ p.rect.walkIn = [] ∧ p.gen.run = .off ∧ p.rect.inFlight = none) ∧
    (p.exerciseCounts e = true ↔ e.tables.genset.fitted = true ∧
      e.tables.genset.exerciseInterval ≠ 0 ∧ p.gen.exerciseDue = false))

/-- 03 R60, R64 and 09 R179: an elapsed second advances site time; the silence timer's expiry begins
SUPERVISOR_SILENT and changes MANUAL to AUTO; a contact sample goes through the input's filter, and a third
consecutive sample at a new level is accepted and handed on. 09 R178, R180, R181: a write of an INPUTS
entry: a change of function or polarity restarts the input and hands the old function's reader and the new
one's the level INACTIVE; a change of interval or detection. That each row brings the plant clock to its
moment is the model's choice (log entries 1 and 29), and so is what a restart hands under EDGE (log entry
26) and that both readers work out with the new entry in force (log entry 44). What an accepted level hands
to the reader that its function names, under LEVEL and EDGE (R181), and how a function's input is found.
That a write that assigns or removes MAINS_SENSE makes the run unit work out its indication too is the
model's choice (log entry 49). At each change of an accepted level, whatever the function, and so at a fall
by a write too, the source (05 R91) and the indication (08 R173) are worked out; that the function's reader
comes before them, and the source first, is the model's choice (log entry 62). -/
def Obligations.ClockAndContactRows : Prop :=
  (∀ s u : State, u = s.bringTo (s.env.clock.secondStart + 1000) →
    exec .siteTimeAdvance s = .next { u with env := { u.env with clock := { u.env.clock with
      site := if s.env.clock.site = 4294967295 then 0 else (s.env.clock.site + 1) % 4294967296
      secondStart := s.env.clock.secondStart + 1000 } } }) ∧
  (∀ (s u : State) (start length : Nat), s.request.silence = .running start length →
    u = ((s.bringTo (start + length)).onRequest fun r =>
      { r with silence := .stopped, silent := true }).post [.cond 25 true] →
    (s.env.mode = .auto → exec .silenceTimerExpiry s = .next u.finish) ∧
    (s.env.mode = .manual → exec .silenceTimerExpiry s = .next u.toAuto.finish)) ∧
  (∀ (i : InputIx) (closed level : Bool) (s u : State) (old : Input) (x : InputEntry) (n : Nat),
    old = s.env.inputs[i] → x = s.env.tables.inputs[i] → u = s.bringTo old.nextSample →
    level = (if x.activeOpen then !closed else closed) →
    n = (if old.streakLevel = level then min (old.streakCount + 1) 3 else 1) →
    ∃ t v, exec (.inputSample i closed) s = .next t ∧ t.env.inputs[i] = v ∧
      v.streakLevel = level ∧ v.streakCount = n ∧ v.samples = min (old.samples + 1) 3 ∧
      v.nextSample = u.env.now + x.interval ∧
      (∀ j : InputIx, j ≠ i → t.env.inputs[j] = s.env.inputs[j]) ∧
      (n = 3 → level ≠ old.accepted → v.accepted = level ∧
        v.lastChange = some ⟨s.env.clock.site, s.env.clock.siteSet⟩ ∧
        t = (({ u with env := { u.env with inputs := put u.env.inputs i v } }).post
          (acceptedSignals x i level)).finish) ∧
      (n ≠ 3 ∨ level = old.accepted → v.accepted = old.accepted ∧ v.lastChange = old.lastChange ∧
        t = ({ u with env := { u.env with inputs := put u.env.inputs i v } }).finish)) ∧
  (∀ (now : Nat) (stamp : Stamp) (old new : InputEntry) (ix : InputIx) (i v : Input) (l : List Signal)
      (reader : InputFunction → Bool → List Signal), i.rewrite now stamp old new ix = (v, l) →
    (∀ f fell, reader f fell = (match f with
        | .unused | .mainsSense | .genFeedback => []
        | .ldFeedback => [.ldCompare]
        | .alarm | .enclosure => [.cond (pointOf ix) false]) ++
      (if fell = true ∨ f = .mainsSense then [.workSource] else []) ++
      (if fell = true ∨ f = .mainsSense ∨ f = .genFeedback then [.indication] else [])) →
    (old.function ≠ new.function ∨ old.activeOpen ≠ new.activeOpen →
      v = { i with
        streakCount := 0, samples := 0, accepted := false, nextSample := now + new.interval
        lastChange := if i.accepted then some stamp else i.lastChange } ∧
      l = (if old.function ≠ new.function then
          reader old.function i.accepted ++ reader new.function false
        else if i.accepted then reader old.function true else [])) ∧
    (old.function = new.function → old.activeOpen = new.activeOpen →
      v = { i with nextSample := if old.interval = new.interval then i.nextSample else now + new.interval } ∧
      l = (if old.edge ≠ new.edge ∧ (new.function = .alarm ∨ new.function = .enclosure) then
        [.cond (pointOf ix) (!new.edge && i.accepted)] else []))) ∧
  (∀ (old : Env) (i : InputIx) (s : State) (v : Input) (l : List Signal),
    s.env.inputs[i].rewrite s.env.now s.env.stamp old.tables.inputs[i] s.env.tables.inputs[i] i =
      (v, l) →
    s.written old .inputs i.val = { s with
      env := { s.env with inputs := put s.env.inputs i v }
      plant := { s.plant with agenda := s.plant.agenda ++ l } }) ∧
  (∀ (x : InputEntry) (i : InputIx) (b : Bool) (n : PointIx), n.val = 32 + i.val →
    (x.function = .unused ∨ x.function = .mainsSense ∨ x.function = .genFeedback →
      acceptedSignals x i b = [.workSource, .indication]) ∧
    (x.function = .ldFeedback → acceptedSignals x i b = [.ldCompare, .workSource, .indication]) ∧
    (x.function = .alarm ∨ x.function = .enclosure → x.edge = false →
      acceptedSignals x i b = [.cond n b, .workSource, .indication]) ∧
    (x.function = .alarm ∨ x.function = .enclosure → x.edge = true → b = true →
      acceptedSignals x i b = [.momentary n, .workSource, .indication]) ∧
    (x.function = .alarm → x.edge = true → b = false →
      acceptedSignals x i b = [.workSource, .indication]) ∧
    (x.function = .enclosure → x.edge = true → b = false →
      acceptedSignals x i b = [.momentary n, .workSource, .indication]) ∧
    pointOf i = n) ∧
  (∀ (e : Env) (f : InputFunction),
    (e.hasInput f = true ↔ ∃ i : InputIx, e.tables.inputs[i].function = f) ∧
    (e.hasInput f = false → e.inputLevel f = false) ∧
    (∀ i : InputIx, e.tables.inputs[i].function = f →
      (∀ j : InputIx, e.tables.inputs[j].function = f → j = i) →
      e.inputLevel f = e.inputs[i].accepted))

/-! ### Alarm points -/

/-- 10 R187: the table of a point's states, cell by cell, with what a raise and a clear do to the point. No
other point changes. 10 R186: a momentary condition raises with zero delay and ends at once, and the four
conditions that the unit works out itself from the bus voltage and the weakest SOC. A condition that a block
hands on is taken by this table, and one with a delay of 0 raises or clears at once, by the raise and the
clear of the statement on transitions. A condition that returns in CLEARING or HELD brings the same instance
back to ACTIVE, whole: the battery test is told when the point is enabled and CRITICAL (R188, 06 R122), and
nothing else changes. That the unit takes its own four in the order 0, 1, 2, 15 is the model's choice (log
entry 56). So is that a test ends after what else the same working-out hands (log entry 69). -/
def Obligations.PointsMoveByTheirTable : Prop :=
  (∀ (e : Env) (i : PointIx) (p : Plant),
    (∀ b, p.alarms.points[i].condition = b → p.setCond e i b = p) ∧
    (p.alarms.points[i].condition = false → ∀ (q : Plant) (x : Point), q = p.setCond e i true →
      x = { p.alarms.points[i] with condition := true } →
      (x.state = .idle → e.tables.alarms[i].raiseDelay = 0 → q.alarms.points[i] =
        ⟨true, .active, false, .stopped, some e.clock.site⟩) ∧
      (x.state = .idle → e.tables.alarms[i].raiseDelay ≠ 0 → q.alarms.points[i] =
        { x with state := .raising, delay := .running e.now (sec e.tables.alarms[i].raiseDelay) }) ∧
      (x.state = .raising ∨ x.state = .active → q.alarms.points[i] = x) ∧
      (x.state = .clearing ∨ x.state = .held →
        q.alarms.points[i] = { x with state := .active, delay := .stopped } ∧
        q.alarms.notices = p.alarms.notices ∧ q.alarms.history = p.alarms.history)) ∧
    (p.alarms.points[i].condition = true → ∀ (q : Plant) (x : Point), q = p.setCond e i false →
      x = { p.alarms.points[i] with condition := false } →
      (x.state = .raising → q.alarms.points[i] = { x with state := .idle, delay := .stopped } ∧
        q.alarms.notices = p.alarms.notices ∧ q.alarms.history = p.alarms.history) ∧
      (x.state = .active → e.tables.alarms[i].clearDelay ≠ 0 → q.alarms.points[i] =
        { x with state := .clearing, delay := .running e.now (sec e.tables.alarms[i].clearDelay) }) ∧
      (x.state = .active → e.tables.alarms[i].clearDelay = 0 →
        (e.tables.alarms[i].latching = true → x.acked = false →
          q.alarms.points[i] = { x with state := .held, delay := .stopped }) ∧
        (e.tables.alarms[i].latching = false ∨ x.acked = true → q.alarms.points[i] =
          { x with state := .idle, delay := .stopped, raiseTime := none })) ∧
      (x.state = .idle ∨ x.state = .clearing ∨ x.state = .held → q.alarms.points[i] = x)) ∧
    (∀ (b : Bool) (j : PointIx), j ≠ i → (p.setCond e i b).alarms.points[j] = p.alarms.points[j])) ∧
  (∀ (s u : State) (i : PointIx) (start length : Nat), u = s.bringTo (start + length) →
    s.plant.alarms.points[i].delay = .running start length →
    (s.plant.alarms.points[i].state = .raising →
      exec (.raiseDelayExpiry i) s = .next ((u.withPlant (u.plant.raise u.env i)).finish) ∧
      (u.plant.raise u.env i).alarms.points[i] =
        { s.plant.alarms.points[i] with
          state := .active, acked := false, delay := .stopped, raiseTime :=
            some u.env.clock.site }) ∧
    (s.plant.alarms.points[i].state = .clearing →
      (s.env.tables.alarms[i].latching = true → s.plant.alarms.points[i].acked = false →
        exec (.clearDelayExpiry i) s = .next ((u.withPlant (u.plant.modifyPoint i fun x =>
          { x with state := .held, delay := .stopped })).finish)) ∧
      (s.env.tables.alarms[i].latching = false ∨ s.plant.alarms.points[i].acked = true →
        exec (.clearDelayExpiry i) s = .next ((u.withPlant (u.plant.clearPoint u.env i)).finish) ∧
        (u.plant.clearPoint u.env i).alarms.points[i] =
          { s.plant.alarms.points[i] with
            state := .idle, delay := .stopped, raiseTime := none }))) ∧
  (∀ (e : Env) (i : PointIx) (p m q : Plant) (x : Point), q = p.handle e (.momentary i) →
    m.alarms.points[i] = x →
    (p.alarms.points[i].state = .idle ∨ p.alarms.points[i].state = .raising → m = p.raise e i) →
    (p.alarms.points[i].state = .clearing ∨ p.alarms.points[i].state = .held →
      ∀ y : Point, y = { p.alarms.points[i] with state := .active, delay := .stopped } →
        m = { p with
        alarms := { p.alarms with points := put p.alarms.points i y }
        agenda := p.agenda ++ (if e.enabled i = true ∧ e.tables.alarms[i].severity = .critical then
          [.testAbort .abortedAlarm] else []) }) →
    (p.alarms.points[i].state = .active → m = p) →
    (e.tables.alarms[i].clearDelay ≠ 0 → ∀ y : Point, y = { x with
        condition := false, state := .clearing
        delay := .running e.now (sec e.tables.alarms[i].clearDelay) } →
      q = { m with alarms := { m.alarms with points := put m.alarms.points i y } }) ∧
    (e.tables.alarms[i].clearDelay = 0 →
      (e.tables.alarms[i].latching = true → x.acked = false → ∀ y : Point,
        y = { x with condition := false, state := .held, delay := .stopped } →
        q = { m with alarms := { m.alarms with points := put m.alarms.points i y } }) ∧
      (e.tables.alarms[i].latching = false ∨ x.acked = true → ∀ y : Point,
        y = { x with condition := false } →
        q = ({ m with alarms := { m.alarms with points := put m.alarms.points i y } } : Plant).clearPoint e i))) ∧
  (∀ (e : Env) (p : Plant) (a b c d : Bool),
    (a = true ↔ ∃ v, p.battery.busVoltage = some v ∧ e.tables.plant.busHigh ≤ v) →
    (b = true ↔ ∃ v, p.battery.busVoltage = some v ∧ v ≤ e.tables.plant.busLow) →
    (c = true ↔ ∃ v, p.battery.busVoltage = some v ∧ v ≤ e.tables.plant.busVeryLow) →
    (d = true ↔ p.battery.weakestSoc ≤ e.tables.genset.startSoc + 10) →
    ((∃ i : StringIx, p.strings[i].status = .reporting) →
      p.handle e .busConds = (((p.setCond e 0 a).setCond e 1 b).setCond e 2 c).setCond e 15 d) ∧
    ((∀ i : StringIx, p.strings[i].status ≠ .reporting) →
      p.handle e .busConds = ((p.setCond e 0 a).setCond e 1 b).setCond e 2 c)) ∧
  (∀ (e : Env) (i : PointIx) (b : Bool) (p : Plant), p.handle e (.cond i b) = p.setCond e i b ∧
    (b ≠ p.alarms.points[i].condition → ∀ (y : Point) (m : Plant),
      y = { p.alarms.points[i] with condition := b } →
      m = { p with alarms := { p.alarms with points := put p.alarms.points i y } } →
      (b = true → y.state = .idle → e.tables.alarms[i].raiseDelay = 0 →
        p.setCond e i b = m.raise e i) ∧
      (b = false → y.state = .active → e.tables.alarms[i].clearDelay = 0 →
        (e.tables.alarms[i].latching = false ∨ y.acked = true) →
          p.setCond e i b = m.clearPoint e i))) ∧
  (∀ (e : Env) (i : PointIx) (p : Plant) (y : Point), p.alarms.points[i].condition = false →
    p.alarms.points[i].state = .clearing ∨ p.alarms.points[i].state = .held →
    y = { p.alarms.points[i] with condition := true, state := .active, delay := .stopped } →
    p.setCond e i true = { p with
      alarms := { p.alarms with points := put p.alarms.points i y }
      agenda := p.agenda ++ if e.enabled i = true ∧ e.tables.alarms[i].severity = .critical then
        [.testAbort .abortedAlarm] else [] })

/-- 10 R188, R190, R191, R193 and R195: what a raise or clear records by its route, how a notice joins the
queue or changes in place, the history ring, and the fault capture. A raise puts the point in ACTIVE
unacknowledged with its time, aborts a test when it is enabled and CRITICAL, and for an enabled point is
recorded and then examined by the capture; a clear puts it in IDLE without a time and is recorded. Neither
the record nor the examination changes anything else. -/
def Obligations.TransitionsAreRecorded : Prop :=
  (∀ (e : Env) (i : PointIx) (up : Bool) (p q : Plant), q = p.recordTransition e i up →
    (e.enabled i = false → q = p) ∧
    (e.enabled i = true →
      (e.tables.alarms[i].route = .silent → q = p) ∧
      (e.tables.alarms[i].route ≠ .silent →
        q.alarms.history = (p.alarms.history ++
          [HistoryEntry.mk p.alarms.nextSeq e.stamp (some i) (if up then .raise else .clear)]).drop
            (p.alarms.history.length + 1 - 64) ∧
        q.alarms.nextSeq = if p.alarms.nextSeq = 4294967295 then 1 else p.alarms.nextSeq + 1) ∧
      (e.tables.alarms[i].route ≠ .notice →
        q.alarms.notices = p.alarms.notices ∧ q.alarms.overflow = p.alarms.overflow) ∧
      (e.tables.alarms[i].route = .notice → ∀ n : Notice,
        n = ⟨i, if up then .raise else .clear, e.tables.alarms[i].severity, e.stamp,
          p.battery.busVoltage, p.charge.state⟩ →
        (∀ before m after, p.alarms.notices = before ++ m :: after → m.point = i →
          (p.alarms.notices.map (·.point)).Nodup →
          q.alarms.notices = before ++ { n with kind :=
            if up then .repeat else .transient } :: after ∧
          q.alarms.overflow = p.alarms.overflow) ∧
        (i ∉ p.alarms.notices.map (·.point) →
          (p.alarms.notices.length < 16 → q.alarms.notices = p.alarms.notices ++ [n] ∧
            q.alarms.overflow = p.alarms.overflow) ∧
          (p.alarms.notices.length = 16 → q.alarms.overflow = true ∧
            ((∀ m ∈ p.alarms.notices, n.severity.toNat ≤ m.severity.toNat) →
              q.alarms.notices = p.alarms.notices) ∧
            (∀ before m after, p.alarms.notices = before ++ m :: after →
              m.severity.toNat < n.severity.toNat →
              (∀ y ∈ before, m.severity.toNat < y.severity.toNat) →
              (∀ y ∈ after, m.severity.toNat ≤ y.severity.toNat) →
              q.alarms.notices = before ++ after ++ [n])))))) ∧
  (∀ (e : Env) (i : PointIx) (p q : Plant), q = p.examineCapture e i →
    ((e.tables.alarms[i].severity).toNat < e.tables.supervision.captureThreshold.toNat → q = p) ∧
    (e.tables.supervision.captureThreshold.toNat ≤ (e.tables.alarms[i].severity).toNat →
      ∀ fresh : Bool → Capture, (fresh = fun more => ⟨i, e.tables.alarms[i].severity, e.stamp,
        p.charge.state, p.charge.source, p.battery.busVoltage, p.battery.weakestSoc, p.gen.run,
        p.activeCount, more⟩) →
      (p.alarms.capture = none → q.alarms.capture = some (fresh false)) ∧
      (∀ c, p.alarms.capture = some c →
        (c.severity.toNat < (e.tables.alarms[i].severity).toNat →
          q.alarms.capture = some (fresh true)) ∧
        ((e.tables.alarms[i].severity).toNat ≤ c.severity.toNat →
          q.alarms.capture = some { c with moreFaults := true })))) ∧
  (∀ (e : Env) (i : PointIx) (p m : Plant) (y : Point),
    y = ⟨p.alarms.points[i].condition, .active, false, .stopped, some e.clock.site⟩ →
    m = { p with
      alarms := { p.alarms with points := put p.alarms.points i y }
      agenda := p.agenda ++ if e.enabled i = true ∧ e.tables.alarms[i].severity = .critical then
        [.testAbort .abortedAlarm] else [] } →
    (e.enabled i = true → p.raise e i = (m.recordTransition e i true).examineCapture e i) ∧
    (e.enabled i = false → p.raise e i = m)) ∧
  (∀ (e : Env) (i : PointIx) (p m : Plant) (y : Point),
    y = { p.alarms.points[i] with state := .idle, delay := .stopped, raiseTime := none } →
    m = { p with alarms := { p.alarms with points := put p.alarms.points i y } } →
    p.clearPoint e i = m.recordTransition e i false) ∧
  (∀ (e : Env) (i : PointIx) (up : Bool) (p : Plant),
    p.recordTransition e i up = { p with alarms := { p.alarms with
      notices := (p.recordTransition e i up).alarms.notices
      overflow := (p.recordTransition e i up).alarms.overflow
      history := (p.recordTransition e i up).alarms.history
      nextSeq := (p.recordTransition e i up).alarms.nextSeq } } ∧
    p.examineCapture e i = { p with alarms := { p.alarms with
      capture := (p.examineCapture e i).alarms.capture } })

/-! ### Resets -/

/-- 01 R14, R15, R19; 02 R24, R44; 03 R54, R56, R58, R61 to R64; 04 R74, R78, R84, R85; 05 R114; 06 R125,
R131; 07 R156; 08 R177; 09 R180, R183, R184; 10 R193, R195: the four resets, and what they leave. A cold
reset (POWER_ON, SUPPLY_LOW) loads the tables; a warm one (RESET_PIN, RESTART) keeps them; tables-unsaved
follows the image as R56 says, and the reset-cause set R61. What each cause leaves of the charge controller,
its timers and its setpoint for START_UP, of the strings and the plant quantities, of the test record, the
rectifier records and their fault histories, of the generator's flags, of the points, the notices, the
history and the capture is what Plant.afterReset gives; the conditions the owners then hand change the alarm
unit and the relays alone. An answered RESTART still due is taken by RESTART_RESET. That RESET_PIN keeps it
due and a cold reset clears it is the model's reading (log entry 31). The model's choices: the plant clock
is unmoved and a warm reset lets the running second go on (log entry 3), silence counts from the reset (log
entry 34), the order of the conditions (log entry 6), what an emptied test record holds of a test that does
not run (log entry 12), and an image of another length fails its check (log entry 27). -/
def Obligations.ResetsLeaveTheirState : Prop :=
  (∀ (a : Nat) (s : State),
    exec (.powerOn a) s = .next ((s.bringTo a).resetBy .powerOn) ∧
    exec (.supplyLow a) s = .next ((s.bringTo a).resetBy .supplyLow) ∧
    exec (.resetPin a) s = .next ((s.bringTo a).resetBy .resetPin)) ∧
  (∀ (cause : Cause) (s t : State), t = s.resetBy cause →
    t.pending = s.pending ∧ t.env.mode = .auto ∧ t.env.clock.now = s.env.clock.now ∧
    t.port = ⟨.silenceWait, false, [], t.env.tables.supervision.rate, none, none, s.env.clock.now⟩ ∧
    t.request.cursor = ⟨.stationMap, 0⟩ ∧ t.request.silent = false ∧
    t.request.restartDue = (s.request.restartDue && cause == .resetPin) ∧
    t.request.silence = (if t.env.tables.supervision.silenceTimeout = 0 then .stopped
      else .running s.env.clock.now (sec t.env.tables.supervision.silenceTimeout)) ∧
    t.store.state = (if s.store.state = .saving ∨ loadImage s.store.image = none then .invalid
      else .valid) ∧
    t.line.rate = t.env.tables.fieldTiming.rate ∧ t.line.txn = none ∧ t.line.pool = [] ∧
    t.line.tagCount = 0 ∧ t.line.pollPos = 0 ∧ t.line.cycle = 0 ∧ t.line.arbCount = 0 ∧
    (∀ st : Station, t.line.mirrors[st] = none) ∧
    (∀ st : Station, st.val ≠ 0 → st.val ≠ 31 → t.plant.links[st] =
      ⟨if t.env.role st = .unused then .unmapped else .discovering, 0, 0, none⟩) ∧
    t.plant.queue = [] ∧ t.plant.charge.state = .startUp ∧ t.plant.charge.source = .none ∧
    t.plant.charge.trim = 0 ∧
    t.plant.charge.startHold = .running s.env.clock.now (sec t.env.tables.plant.startUpHold) ∧
    t.plant.ld = ⟨.connected, .stopped, .stopped, .stopped, false⟩ ∧
    t.plant.outputs = ⟨.replicate 4 false, false, false⟩ ∧
    t.plant.rect.duty = [] ∧ t.plant.rect.out = [] ∧ t.plant.rect.walkIn = [] ∧
    t.plant.rect.target = 0 ∧ t.plant.gen.reasons = ⟨false, false, false, false, false⟩ ∧
    t.plant.gen.run = (if t.env.tables.genset.fitted then .off else .disabled) ∧
    t.plant.gen.allowance = none ∧ t.plant.alarms.overflow = false ∧
    (∀ i : InputIx, t.env.inputs[i].accepted = false ∧ t.env.inputs[i].samples = 0 ∧
      t.env.inputs[i].nextSample = s.env.clock.now + t.env.tables.inputs[i].interval) ∧
    (cause = .powerOn ∨ cause = .supplyLow →
      t.env.clock.site = 0 ∧ t.env.clock.siteSet = false ∧ t.request.lock = false ∧
      t.env.tables = (if s.store.state =
        .saving then .default else (loadImage s.store.image).getD .default) ∧
      t.plant.charge.equalizeCount = 0 ∧ t.plant.test.outcome = .none ∧
      (∀ i : StringIx, t.env.tables.strings[i].capacity ≠ 0 →
        t.plant.strings[i].shortfall = ((t.env.tables.strings[i].capacity * 1000 *
          t.env.tables.plant.startUpShortfall / 100 : Nat) : Int) ∧
        t.plant.strings[i].residue = 0 ∧ t.plant.strings[i].estimated = true)) ∧
    (cause = .resetPin ∨ cause = .restart →
      t.env.clock = s.env.clock ∧ t.request.lock = s.request.lock ∧ t.env.tables = s.env.tables ∧
      t.plant.charge.equalizeCount = s.plant.charge.equalizeCount ∧
      (∀ i : StringIx, t.plant.strings[i].shortfall = s.plant.strings[i].shortfall ∧
        t.plant.strings[i].residue = s.plant.strings[i].residue ∧
        t.plant.strings[i].estimated = s.plant.strings[i].estimated) ∧
      (∀ c, s.plant.alarms.capture = some c →
        ∃ d, t.plant.alarms.capture = some d ∧ c.keptOrReplaced d))) ∧
  (∀ (cause : Cause) (s t : State), t = s.resetBy cause →
    t.plant.gen = (s.plant.afterReset t.env cause).gen ∧ t.plant.rect =
      (s.plant.afterReset t.env cause).rect ∧
    t.plant.test = (s.plant.afterReset t.env cause).test ∧
    ∃ a : State, a.plant = s.plant.afterReset t.env cause ∧
      t = (a.post [.fieldBus, .cond 25 false, .cond 26 (t.store.state == .invalid),
        .cond 27 t.request.unsaved,
        .cond 28 false, .stringConds, .chargeConds, .testConds, .rectConds, .genConds,
          .busConds]).finish) ∧
  (∀ (e : Env) (cause : Cause) (p : Plant) (a : Alarms), a = (p.afterReset e cause).alarms →
    (∀ i : PointIx, a.points[i] = ⟨false, .idle, false, .stopped, none⟩) ∧ a.notices = [] ∧
      a.overflow = false ∧
    (cause = .powerOn ∨ cause = .supplyLow → a.history = [⟨1, e.stamp, none, .restart cause⟩] ∧
      a.nextSeq = 2 ∧ a.capture = none) ∧
    (cause = .resetPin ∨ cause = .restart →
      a.history = (p.alarms.history ++
        [HistoryEntry.mk p.alarms.nextSeq e.stamp none (.restart cause)]).drop
        (p.alarms.history.length + 1 - 64) ∧
      a.nextSeq = (if p.alarms.nextSeq = 4294967295 then 1 else p.alarms.nextSeq + 1) ∧
      a.capture = p.alarms.capture)) ∧
  (∀ (e : Env) (cause : Cause) (p : Plant) (g h : GenUnit), g = (p.afterReset e cause).gen →
    h = p.gen →
    g.status = (if e.gensetStation = none then .absent else .discovering) ∧ g.attempts = 0 ∧
    g.runStart = none ∧ g.runTime = 0 ∧ g.retryDue = false ∧ g.resetOutstanding = false ∧
      g.mainsMark = false ∧
    g.lowVoltage = .stopped ∧ g.dischargeTime = .stopped ∧ g.crank = .stopped ∧ g.rest = .stopped ∧
    g.warmup = .stopped ∧ g.warmupSecond = .stopped ∧ g.cooldown = .stopped ∧
      g.stopConfirm = .stopped ∧
    g.retry = .stopped ∧
    (cause = .powerOn ∨ cause = .supplyLow → g.exerciseCount = 0 ∧ g.exerciseDue = false ∧
      g.startFailed = false ∧ g.engineFailure = false ∧ g.failedSinceRun = false ∧
        g.lastCause = .none ∧
      g.report = none ∧ g.decline = none) ∧
    (cause = .resetPin ∨ cause = .restart → g.exerciseCount = h.exerciseCount ∧
      g.exerciseDue = (h.exerciseDue || h.reasons.exercise) ∧ g.startFailed = h.startFailed ∧
      g.engineFailure = h.engineFailure ∧ g.failedSinceRun = h.failedSinceRun ∧
      g.lastCause = h.lastCause ∧ g.report = h.report ∧ g.decline = h.decline)) ∧
  (∀ (e : Env) (cause : Cause) (p : Plant) (r : RectUnit), r = (p.afterReset e cause).rect →
    r.inFlight = none ∧ r.shortCapacity = false ∧ r.sizing = .stopped ∧ r.shed = .stopped ∧
    r.stagger = .stopped ∧ r.refresh = .stopped ∧
    (cause = .powerOn ∨ cause = .supplyLow → r.rotationCount = 0 ∧ r.rotationPending = false ∧
      ∀ u : RectIx, r.records[u] = ⟨if e.rectStation u = none then .absent else .discovering, none,
        none, none,
        none, .none, [], .stopped, .stopped, 0, 0⟩) ∧
    (cause = .resetPin ∨ cause = .restart → r.rotationCount = p.rect.rotationCount ∧
      r.rotationPending = p.rect.rotationPending ∧
      ∀ u : RectIx, r.records[u] = { p.rect.records[u] with
        status := if e.rectStation u = none then .absent else .discovering
        commanded := none, composed := none, follow := .stopped, recovery := .stopped })) ∧
  (∀ s : State, s.request.restartDue = true → exec .restartReset s = .next (s.resetBy .restart)) ∧
  (∀ (cause : Cause) (s t : State) (valid : Prop), t = s.resetBy cause →
    valid = (s.store.state ≠ .saving ∧ loadImage s.store.image ≠ none) →
    (cause = .powerOn ∨ cause = .supplyLow →
      (valid → t.request.unsaved = false) ∧ (¬ valid → t.request.unsaved = true)) ∧
    (cause = .resetPin ∨ cause = .restart →
      (valid → t.request.unsaved = s.request.unsaved) ∧ (¬ valid → t.request.unsaved = true)) ∧
    (s.store.state ≠ .saving → t.store.image = s.store.image) ∧
    (cause = .powerOn → t.request.causes = ⟨true, false, false, false⟩) ∧
    (cause = .supplyLow → t.request.causes = { s.request.causes with supplyLow := true }) ∧
    (cause = .resetPin → t.request.causes = { s.request.causes with resetPin := true }) ∧
    (cause = .restart → t.request.causes = { s.request.causes with restart := true })) ∧
  (∀ (cause : Cause) (s t : State), t = s.resetBy cause →
    t.plant = { s.plant.afterReset t.env cause with
      alarms := t.plant.alarms, outputs := t.plant.outputs, agenda := t.plant.agenda }) ∧
  (∀ (e : Env) (cause : Cause) (p : Plant) (c : Charge) (x : Profile) (T used comp base : Int),
    c = (p.afterReset e cause).charge → x = e.tables.profile →
    T = (if cause = .powerOn ∨ cause = .supplyLow then 300 else p.battery.tComp) →
    used = min (max T x.clampLow) x.clampHigh → comp = (x.k * (used - x.tRef)).tdiv 10 →
    base = ((x.cells : Int) * ((x.floatCell : Int) * 1000 + comp) + 500) / 1000 →
    c.state = .startUp ∧ c.stateSince = e.now ∧ c.mains = false ∧ c.source = .none ∧ c.overTemp = false ∧
    c.highTemp = false ∧ c.trim = 0 ∧ c.evaluation = .running e.now (sec e.tables.plant.evaluation) ∧
    c.startHold = .running e.now (sec e.tables.plant.startUpHold) ∧ c.dischargeDebounce = .stopped ∧
    c.recoveryDebounce = .stopped ∧ c.boost = .stopped ∧ c.taper = .stopped ∧ c.equalizeDuration = .stopped ∧
    c.tUsed = used ∧ c.compensation = comp ∧ c.base = base ∧
    c.setpoint = (min (max base x.busMin) x.busMax).toNat ∧
    (cause = .powerOn ∨ cause = .supplyLow → c.equalizeCount = 0 ∧ c.equalizePending = false ∧
      c.boostInhibit = false ∧ c.boostTimeout = false) ∧
    (cause = .resetPin ∨ cause = .restart → c.equalizeCount = p.charge.equalizeCount ∧
      c.equalizePending = p.charge.equalizePending ∧ c.boostInhibit = p.charge.boostInhibit ∧
      c.boostTimeout = p.charge.boostTimeout)) ∧
  (∀ (e : Env) (cause : Cause) (p : Plant) (i : StringIx) (x : StringRec) (short cap : Nat),
    x = (p.afterReset e cause).strings[i] → short = e.tables.plant.startUpShortfall →
    cap = e.tables.strings[i].capacity →
    x.status = (if cap ≠ 0 ∧ e.unitStation .stringMonitor i.val ≠ none then .discovering else .absent) ∧
    (cause = .powerOn ∨ cause = .supplyLow → x =
      { status := x.status, voltage := 0, current := 0, temperature := 0, tempValid := false, blocks := []
        spread := 0, imbalance := false, shortfall := (cap * 1000 * short / 100 : Nat), residue := 0
        estimated := true, soc := if cap = 0 then 0 else 100 - short, tPrev := none }) ∧
    (cause = .resetPin ∨ cause = .restart → x = { p.strings[i] with status := x.status })) ∧
  (∀ (e : Env) (cause : Cause) (p : Plant) (b : Battery), b = (p.afterReset e cause).battery →
    b.weakestIndex = none ∧ b.iBat = 0 ∧ b.iChg = 0 ∧ b.busVoltage = none ∧
    (cause = .powerOn ∨ cause = .supplyLow → b.weakestSoc = 100 - e.tables.plant.startUpShortfall ∧
      b.tComp = 300 ∧ b.tSource = .holding ∧ b.hold = .running e.now 600000) ∧
    (cause = .resetPin ∨ cause = .restart → b.weakestSoc = p.battery.weakestSoc ∧ b.tComp = p.battery.tComp ∧
      (p.battery.tSource = .fallback → b.tSource = .fallback ∧ b.hold = .stopped) ∧
      (p.battery.tSource ≠ .fallback → b.tSource = .holding ∧ b.hold = .running e.now 600000))) ∧
  (∀ (e : Env) (cause : Cause) (p : Plant) (x y : Test), x = (p.afterReset e cause).test → y = p.test →
    (cause = .powerOn ∨ cause = .supplyLow → x = ⟨.none, .none, ⟨0, false⟩, 0, 0, 0, none, 0, 0, .stopped, 0,
      false, false⟩) ∧
    (cause = .resetPin ∨ cause = .restart →
      (y.outcome = .running → x = { y with
        duration := .stopped, seconds := (e.now - y.started) / 1000, outcome := .abortedCommand }) ∧
      (y.outcome ≠ .running → x = { y with duration := .stopped })))

/-! ### Charge, setpoint and allowance -/

/-- 04 R69 to R77: what a string monitor's report and a recomputation leave: the integration, the SOC, the
weakest string, the currents, the bus voltage with and without a REPORTING string (R76), and the
compensation temperature, the highest valid one (R77). 04 R66, R72, 05 R87: a change of rated capacity and a
write of PROFILE act at once on the records, the setpoint and the timers. That a change of another field of
STRINGS alone causes no recomputation is the model's reading (log entry 39). That an ACTIVE rectifier
without a last report has no part in the mean of R76 is its choice (log entry 47). 04 R68, R79, R80: a
report's spread and imbalance flag, what it hands on, and what an unfitted string keeps of it; conditions
10, 13, 16 and 30; to whom a recomputation and a rectifier's event hand the values. 04 R81: a
resynchronisation. That the change of an integrating report's shortfall is handed on ahead of the
recomputation is the model's reading (log entry 20); the boost timer's expiry before the taper hold timer's
at a PROFILE write is its choice (log entry 45). So are where the recomputation falls that a PROFILE write
causes (log entry 53), and the order in which its readers take a recomputation, the examination and the
test's comparison first, the unit's own conditions last (log entry 54). 06 R121: a running test's voltage
follows a setpoint worked out in TEST and a PROFILE write. The order of the four conditions, by point
number, is its choice too (log entry 57). -/
def Obligations.ReportsAreIntegrated : Prop :=
  (∀ (e : Env) (i : StringIx) (r : StringReport) (t : Nat) (p q : Plant) (old new : StringRec),
    q = p.stringReport e i r t → old = p.strings[i] → new = q.strings[i] → e.fitted i = true →
    new.voltage = r.voltage ∧ new.current = r.current ∧ new.temperature = r.temperature ∧
    new.blocks = r.blocks ∧ new.tPrev = some t ∧ new.status = old.status ∧
    new.tempValid = (r.validFlag && decide (-400 ≤ r.temperature ∧ r.temperature ≤ 850)) ∧
    (∀ j : StringIx, j ≠ i → q.strings[j] = p.strings[j]) ∧
    (old.status ≠ .reporting ∨ old.tPrev = none →
      new.shortfall = old.shortfall ∧ new.residue = old.residue ∧
      (new.estimated = true ↔ old.estimated = true ∨ old.status = .discovering ∨
        old.status = .lost ∨
        old.tPrev = none)) ∧
    (∀ prev, old.status = .reporting → old.tPrev = some prev → prev ≤ t →
      ∀ (gap dt : Nat) (charge sum whole : Int) (lo hi : Int), gap = e.tables.strings[i].gapLimit →
      dt = min (t - prev) gap →
      charge = (if 0 < r.current then
        (r.current * dt * e.tables.strings[i].eta).tdiv 100 else r.current * dt) →
      sum = old.residue + charge → whole = sum.tdiv 36000 →
      hi = e.tables.strings[i].capacity * 1000 →
      lo = -(e.tables.strings[i].capacity * 10 * e.tables.profile.overcharge) →
      (new.estimated = true ↔ old.estimated = true ∨ gap < t - prev) ∧
      (hi < old.shortfall - whole → new.shortfall = hi ∧ new.residue = 0) ∧
      (old.shortfall - whole < lo → new.shortfall = lo ∧ new.residue = 0) ∧
      (lo ≤ old.shortfall - whole → old.shortfall - whole ≤ hi →
        new.shortfall = old.shortfall - whole ∧ new.residue = sum - whole * 36000))) ∧
  (∀ (e : Env) (i : StringIx) (d : Int), e.fitted i = true → d ≤ e.capacity i →
    e.soc i d ≤ 100 ∧ (e.soc i d : Int) * e.capacity i ≤ 100 * (e.capacity i - max d 0) ∧
    100 * (e.capacity i - max d 0) < ((e.soc i d : Int) + 1) * e.capacity i) ∧
  (∀ (e : Env) (p q : Plant), q = p.recompute e →
    (∀ i : StringIx, q.battery.weakestIndex = some i ↔
      p.strings[i].status = .reporting ∧ ∀ j : StringIx, p.strings[j].status = .reporting →
        p.strings[i].soc < p.strings[j].soc ∨
          (p.strings[i].soc = p.strings[j].soc ∧ i.val ≤ j.val)) ∧
    (∀ i : StringIx, q.battery.weakestIndex = some i → q.battery.weakestSoc = p.strings[i].soc) ∧
    (q.battery.weakestIndex = none → q.battery.weakestSoc = p.battery.weakestSoc) ∧
    q.battery.iBat = ((indices 4).map fun i =>
      if p.strings[i].status = .reporting then p.strings[i].current else 0).sum ∧
    q.battery.iChg = ((indices 4).map fun i =>
      if p.strings[i].status = .reporting then max p.strings[i].current 0 else 0).sum ∧
    (∀ i : StringIx, p.strings[i].status = .reporting →
      (∀ j : StringIx, j.val < i.val → p.strings[j].status ≠ .reporting) →
      q.battery.busVoltage = some p.strings[i].voltage) ∧
    (∀ i : StringIx, p.strings[i].status = .reporting → p.strings[i].tempValid = true →
      q.battery.tSource = .live ∧ q.battery.hold = .stopped ∧
      p.strings[i].temperature ≤ q.battery.tComp) ∧
    ((∀ i : StringIx, p.strings[i].status = .reporting → p.strings[i].tempValid = false) →
      q.battery.tComp = p.battery.tComp ∧
      (p.battery.tSource = .live → q.battery.tSource = .holding ∧
        q.battery.hold = .running e.now 600000) ∧
      (p.battery.tSource ≠ .live → q.battery.tSource = p.battery.tSource ∧
        q.battery.hold = p.battery.hold))) ∧
  (∀ (e : Env) (p q : Plant), q = p.handle e .recompute →
    (∀ i : StringIx, p.strings[i].status = .reporting → p.strings[i].tempValid = true →
      ∃ j : StringIx, p.strings[j].status = .reporting ∧ p.strings[j].tempValid = true ∧
        q.battery.tComp = p.strings[j].temperature) ∧
    ((∀ i : StringIx, p.strings[i].status ≠ .reporting) →
      ((∀ u : RectIx, ¬ (p.rect.status u = .active ∧ p.rect.records[u].report.isSome = true)) →
        q.battery.busVoltage = none) ∧
      (∀ vs : List Nat, vs = ((indices 12).filter fun u => p.rect.status u == .active).filterMap
          (fun u => p.rect.records[u].report.map (·.voltage)) → vs ≠ [] →
        q.battery.busVoltage = some (vs.sum / vs.length))) ∧
    (p.handle e .busVoltage).battery = { p.battery with busVoltage := q.battery.busVoltage }) ∧
  (∀ (e : Env) (i : StringIx) (old : StringsEntry) (p q : Plant) (new : Nat) (x : StringRec),
    q = p.capacityChanged e i old → new = e.tables.strings[i].capacity → x = p.strings[i] →
    (old.capacity = new → q = p) ∧
    (old.capacity ≠ new → q.agenda = p.agenda ++ [.recompute] ∧
      (∀ j : StringIx, j ≠ i → q.strings[j] = p.strings[j]) ∧
      (new = 0 → q.strings[i] = { x with
        status := .absent, shortfall := 0, residue := 0, soc := 0, tPrev := none, estimated :=
          true }) ∧
      (new ≠ 0 → old.capacity = 0 → ∀ d : Int, d =
        (new * 1000 * e.tables.plant.startUpShortfall / 100 : Nat) →
        q.strings[i] = { x with
          status := (match p.linkOf (e.unitStation .stringMonitor i.val) with
            | .unmapped => .absent
            | .discovering => .discovering
            | .reporting => .reporting
            | .lost => .lost)
          shortfall := d, residue := 0, tPrev := none, estimated := true, soc := e.soc i d }) ∧
      (new ≠ 0 → old.capacity ≠ 0 → ∀ (hi lo : Int), hi = new * 1000 →
        lo = -((new * 10 * e.tables.profile.overcharge : Nat) : Int) → lo ≤ hi →
        (hi < x.shortfall → q.strings[i] =
          { x with shortfall := hi, residue := 0, soc := e.soc i hi }) ∧
        (x.shortfall < lo → q.strings[i] =
          { x with shortfall := lo, residue := 0, soc := e.soc i lo }) ∧
        (lo ≤ x.shortfall → x.shortfall ≤ hi →
          q.strings[i] = { x with soc := e.soc i x.shortfall })))) ∧
  (∀ (e : Env) (old : Profile) (p q : Plant) (i : StringIx), q = p.profileWritten e old →
    (e.fitted i = true → q.strings[i] = p.strings[i].reclamp e i) ∧
    (e.fitted i = false → q.strings[i] = p.strings[i]) ∧
    (∀ (c : Charge), c = p.charge.setpointFrom e.tables.profile p.battery.tComp →
      q.charge = { c with
        boost := p.charge.boost.relength (hours e.tables.profile.boostMax)
        taper := p.charge.taper.relength (minutes e.tables.profile.taperHold) }) ∧
    q.agenda = p.agenda ++ (if old.overcharge =
      e.tables.profile.overcharge then [] else [.recompute]) ++
      [.compose [], .workAllowance, .examine] ++
      (if (p.charge.boost.relength (hours e.tables.profile.boostMax)).isOver e.now then
        [.expired .boost] else []) ++
      (if (p.charge.taper.relength (minutes e.tables.profile.taperHold)).isOver e.now then
        [.expired .taper] else [])) ∧
  (∀ (e : Env) (i : StringIx) (x : StringRec) (hi lo : Int), e.fitted i = true →
    hi = e.tables.strings[i].capacity * 1000 →
    lo = -((e.tables.strings[i].capacity * 10 * e.tables.profile.overcharge : Nat) : Int) →
      lo ≤ hi →
    (hi < x.shortfall → x.reclamp e i =
      { x with shortfall := hi, residue := 0, soc := e.soc i hi }) ∧
    (x.shortfall < lo → x.reclamp e i =
      { x with shortfall := lo, residue := 0, soc := e.soc i lo }) ∧
    (lo ≤ x.shortfall → x.shortfall ≤ hi → x.reclamp e i = { x with soc := e.soc i x.shortfall })) ∧
  (∀ (e : Env) (i : StringIx) (r : StringReport) (t : Nat) (p q : Plant) (old new : StringRec),
    q = p.handle e (.stringReport i r t) → old = p.strings[i] → new = q.strings[i] →
    (r.blocks.length < 2 → new.spread = 0) ∧
    (2 ≤ r.blocks.length → ∃ hi ∈ r.blocks, ∃ lo ∈ r.blocks,
      (∀ b ∈ r.blocks, lo ≤ b ∧ b ≤ hi) ∧ new.spread = hi - lo) ∧
    (e.fitted i = true → q = p.stringReport e i r t ∧ new.soc = e.soc i new.shortfall ∧
      (new.imbalance = true ↔
        e.tables.strings[i].imbalanceLimit ≠ 0 ∧ e.tables.strings[i].imbalanceLimit < new.spread) ∧
      q = { p with
        strings := q.strings
        agenda := p.agenda ++ (if old.status = .reporting ∧ old.tPrev ≠ none
          then [.testCharge (new.shortfall - old.shortfall)] else []) ++ [.recompute] }) ∧
    (e.fitted i = false → q = { p with strings := put p.strings i { old with
      voltage := r.voltage, current := r.current, temperature := r.temperature, blocks := r.blocks
      tempValid := r.validFlag && decide (-400 ≤ r.temperature ∧ r.temperature ≤ 850)
      spread := new.spread } })) ∧
  (∀ (e : Env) (p : Plant) (lost imbalance estimated : Bool),
    (lost = true ↔ ∃ i : StringIx, p.strings[i].status = .lost) →
    (imbalance = true ↔ ∃ i : StringIx, p.strings[i].status = .reporting ∧
      p.strings[i].imbalance = true) →
    (estimated = true ↔ ∃ i : StringIx, p.strings[i].status = .reporting ∧
      p.strings[i].estimated = true) →
    p.handle e .stringConds = (((p.setCond e 10 lost).setCond e 13 imbalance).setCond e 16
      estimated).setCond e 30 (decide (p.battery.tSource = .fallback))) ∧
  (∀ (e : Env) (p q : Plant), q = p.handle e .resync →
    q = { p with strings := q.strings, agenda := p.agenda ++ [.recompute] } ∧
    ∀ i : StringIx, (p.strings[i].status ≠ .reporting → q.strings[i] = p.strings[i]) ∧
      (p.strings[i].status = .reporting → q.strings[i] = { p.strings[i] with
        shortfall := -((e.tables.strings[i].capacity * 10 * e.tables.profile.overcharge : Nat) : Int)
        residue := 0, estimated := false
        soc := if e.tables.strings[i].capacity = 0 then 0 else 100 })) ∧
  (∀ (e : Env) (p : Plant),
    p.handle e .recompute = { p with
      battery := (p.handle e .recompute).battery
      agenda := p.agenda ++ [.examine, .testVoltage, .ldExam, .reasonExam, .stringConds, .busConds] } ∧
    p.handle e .busVoltage = { p with
      battery := (p.handle e .busVoltage).battery
      agenda := p.agenda ++ [.testVoltage, .ldExam, .reasonExam, .busConds] }) ∧
  (∀ (e : Env) (old : Profile) (p q r : Plant), q = p.workSetpoint e → r = p.profileWritten e old →
    q = { p with
      charge := p.charge.setpointFrom e.tables.profile p.battery.tComp
      test := if p.charge.state = .test ∧ p.test.outcome = .running then
        { p.test with voltage := q.charge.setpoint } else p.test
      agenda := p.agenda ++ [.compose [], .workAllowance] } ∧
    r = { p with
      strings := r.strings, charge := r.charge, agenda := r.agenda
      test := if p.charge.state = .test ∧ p.test.outcome = .running then
        { p.test with voltage := r.charge.setpoint } else p.test })

/-- 05 R109 to R112: how the setpoint is worked out, and what a trim step does. That SET_OUTPUT is composed
before the allowance is worked out again is the model's choice (log entry 59). -/
def Obligations.TheSetpointIsWorkedOut : Prop :=
  (∀ (e : Env) (p : Plant) (c d : Charge) (x : Profile) (t comp : Int) (v : Nat), d = p.charge →
    c = (p.workSetpoint e).charge → x = e.tables.profile → x.busMin ≤ x.busMax →
    v = (match d.state with
      | .startUp | .float | .discharge => x.floatCell
      | .boost => x.boostCell
      | .equalize => x.equalizeCell
      | .test => x.testCell) →
    t = (if d.overTemp then x.clampHigh else min (max p.battery.tComp x.clampLow) x.clampHigh) →
    comp = (if d.state = .test then 0 else (x.k * (t - x.tRef)).tdiv 10) →
    c.tUsed = t ∧ c.compensation = comp ∧
    (c.base * 1000 - 500 ≤ x.cells * (v * 1000 + comp) ∧
      x.cells * (v * 1000 + comp) < c.base * 1000 + 500) ∧
    (c.base + d.trim ≤ x.busMin → c.setpoint = x.busMin) ∧
    ((x.busMin : Int) ≤ c.base + d.trim → c.base + d.trim ≤ x.busMax →
      (c.setpoint : Int) = c.base + d.trim) ∧
    ((x.busMax : Int) ≤ c.base + d.trim → c.setpoint = x.busMax) ∧ c.trim = d.trim ∧
    (p.workSetpoint e).agenda = p.agenda ++ [.compose [], .workAllowance]) ∧
  (∀ (e : Env) (p : Plant) (low trim after : Int), low = -(e.tables.plant.trimMax : Int) →
    trim = max p.charge.trim low → after = (p.trimStep e).charge.trim →
    (e.mode = .auto → p.charge.state = .float ∨ p.charge.state = .boost ∨
      p.charge.state = .equalize →
      ((p.charge.iLim : Int) < p.battery.iChg →
        after = max (trim - e.tables.plant.trimDown) low) ∧
      (p.battery.iChg < ((p.charge.iLim * 90 / 100 : Nat) : Int) →
        after = min (trim + e.tables.plant.trimUp) 0) ∧
      (((p.charge.iLim * 90 / 100 : Nat) : Int) ≤ p.battery.iChg → p.battery.iChg ≤ p.charge.iLim →
        after = trim)) ∧
    (e.mode = .manual ∨ p.charge.state = .startUp ∨ p.charge.state = .discharge ∨
      p.charge.state = .test → p.trimStep e = p))

/-- 08 R175 and 07 R151, R152: the allowance of a run state, and what a working-out of the SET_OUTPUT orders
leaves: every limit last composed is within the record's rating and share, and those of the ACTIVE records
sum to no more than the allowance. The limits stand only while every ACTIVE record has reported. R152's
deadbands: an order is composed for an ACTIVE record exactly when none was, or it is forced, or the voltage
moved by the voltage deadband, or the limit fell, or it rose by the current deadband; in duty order (log
entry 22). The allowance worked out is handed on as a working-out of the orders when it changed. That
nothing is composed for an ACTIVE record without a last report is the model's choice (log entry 47). So is
that a deadband of 0 composes at every event, the value changed or not (log entry 51). -/
def Obligations.ComposedLimitsStayWithinTheAllowance : Prop :=
  (∀ (t : GensetTable) (setpoint full : Nat), setpoint ≠ 0 →
    full = t.ratedOutput * 1000 * t.derate * t.conversion / 10000 * 10000 / setpoint →
    t.allowanceAt .onLoad setpoint = some full ∧
    t.allowanceAt .cooldown setpoint = some (full * t.cooldownLimit / 100) ∧
    ∀ run : RunState, run ≠ .onLoad → run ≠ .cooldown → t.allowanceAt run setpoint = none) ∧
  (∀ (e : Env) (p q : Plant) (forced : List RectIx), p.rect.law → p.canOrder e = true →
    q = p.compose e forced → (∀ u : RectIx, p.rect.status u = .active →
      p.rect.records[u].report.isSome = true) →
    (∀ (u : RectIx) (r : RectReport), p.rect.status u = .active →
      p.rect.records[u].report = some r →
      ∃ v l, q.rect.records[u].composed = some (v, l) ∧
        (p.gen.allowance = none → l ≤ r.rated) ∧
        (∀ a, p.gen.allowance = some a → l ≤ min r.rated (a / p.activeCount)) ∧
        (u ∈ forced → v = p.charge.setpoint)) ∧
    (∀ a, p.gen.allowance = some a →
      (((indices 12).filter fun u => p.rect.status u == .active).map fun u =>
        match q.rect.records[u].composed with
        | some (_, l) => l
        | none => 0).sum ≤ a) ∧
    (∀ u : RectIx, p.rect.status u ≠ .active → q.rect.records[u] = p.rect.records[u]) ∧
    (∀ o ∈ q.queue, o ∈ p.queue ∨ ∃ l, o.body = .setOutput p.charge.setpoint l)) ∧
  (∀ (e : Env) (p : Plant) (forced : List RectIx), e.mode = .manual ∨ p.charge.state = .startUp →
    p.compose e forced = p) ∧
  (∀ (e : Env) (p : Plant) (forced : List RectIx),
    (p.canOrder e = true → p.handle e (.compose forced) =
      (p.rect.duty.filter fun u => p.rect.status u == .active).foldl (Plant.composeOne e forced) p) ∧
    (∀ (u : RectIx), p.rect.records[u].report = none → p.composeOne e forced u = p) ∧
    (∀ (u : RectIx) (r : RectReport) (l v : Nat) (must : Prop), p.rect.status u = .active →
      p.rect.records[u].report = some r → v = p.charge.setpoint →
      l = (match p.gen.allowance with
        | none => r.rated
        | some a => min r.rated (a / p.activeCount)) →
      must = (p.rect.records[u].composed = none ∨ u ∈ forced ∨
        ∃ lv ll, p.rect.records[u].composed = some (lv, ll) ∧
          (lv + e.tables.plant.voltageDeadband ≤ v ∨ v + e.tables.plant.voltageDeadband ≤ lv ∨
            l < ll ∨
            ll + e.tables.plant.currentDeadband ≤ l)) →
      (must → ∀ st : Station, e.rectStation u = some st → p.composeOne e forced u =
        (p.modifyRect u fun x => { x with composed := some (v, l) }).offer ⟨st, .setOutput v l, 0,
          .rect u⟩) ∧
      (¬ must → p.composeOne e forced u = p))) ∧
  (∀ (e : Env) (p : Plant) (a : Option Nat),
    a = e.tables.genset.allowanceAt p.gen.run p.charge.setpoint →
    p.handle e .workAllowance = { p with
      gen := { p.gen with allowance := a }
      agenda := p.agenda ++ if p.gen.allowance = a then [] else [.compose []] })

/-! ### The part's laws -/

/-- Every law below holds of the machine right after reset. -/
def Obligations.TheResetStateMeetsTheLaws : Prop :=
  State.reset.registerLaw ∧ State.reset.chargeLaw ∧ queueLaw State.reset.plant.queue ∧
  linksLaw State.reset.plant.links ∧ State.reset.plant.alarms.law ∧
  setpointLaw State.reset.env.tables.profile State.reset.plant.charge ∧
  trimLaw State.reset.env.mode State.reset.plant.charge ∧ State.reset.plant.timerLaw ∧
  State.reset.plant.outputLaw ∧ State.reset.plant.gen.attemptLaw ∧ State.reset.plant.rect.law ∧
  relayLaw State.reset.env State.reset.plant ∧ State.reset.store.imageLaw ∧
  State.reset.plant.testLaw ∧ State.reset.plant.floorLaw State.reset.env ∧
  State.reset.plant.composedLaw State.reset.env

/-- Every command keeps the laws of the buffers: the port holds an answer exactly while one is due, the
exchange pool and the poll counts stay in range (01 R14; 02 R28, R36), the order queue holds at most 16
orders and no two of a station and order type (02 R31), the notice queue at most 16 notices and no two of a
point (10 R190), the history at most 64 entries numbered in turn (10 R193); and a held capture is kept or
replaced by one of strictly higher severity (10 R195). -/
def Obligations.BufferLawsAreKept : Prop :=
  ∀ (c : Instr) (s t : State), exec c s = .next t →
    (s.registerLaw → t.registerLaw) ∧ (queueLaw s.plant.queue → queueLaw t.plant.queue) ∧
    (linksLaw s.plant.links → linksLaw t.plant.links) ∧
    (s.plant.alarms.law → t.plant.alarms.law) ∧
    (∀ x, s.plant.alarms.capture = some x → (∀ q, c ≠ .releaseCapture q) → isCold c = false →
      ∃ y, t.plant.alarms.capture = some y ∧ x.keptOrReplaced y)

/-- Every command keeps the laws of the plant, a cold reset where the stored image, if it loads, holds
tables that valid writes leave (only a save that ends damaged can store another): the tables are ones that
valid writes leave and each string's shortfall lies in its range (04 R72); the setpoint lies within the bus
limits in force, and every SET_OUTPUT voltage in the queue was there or lies within them (02 R39, 05 R112);
the trim is 0 or less, and 0 where no step is taken (05 R111); each timer runs in its state alone (05 R93);
GEN RUN, LD and the allowance follow their states, and a start cycle makes no more attempts than its limit
(08 R174); the relays stand as 09 R183 says. A test runs in the plant state TEST alone, and there only while
the source is MAINS and the run unit is in OFF (06 R122), where the hand-ons have all been worked off,
before the step and after it (log entry 9). -/
def Obligations.PlantLawsAreKept : Prop :=
  ∀ (c : Instr) (s t : State), exec c s = .next t → s.env.tables.wf = true →
    (isCold c = true → s.store.imageLaw) →
    t.env.tables.wf = true ∧
    (s.store.imageLaw → (∀ a d, c = .saveComplete a d → d = []) → t.store.imageLaw) ∧
    (stringsLaw s.env s.plant.strings → stringsLaw t.env t.plant.strings) ∧
    (setpointLaw s.env.tables.profile s.plant.charge →
      setpointLaw t.env.tables.profile t.plant.charge ∧
      ∀ o ∈ t.plant.queue, ∀ v l, o.body = .setOutput v l →
        (∃ x ∈ s.plant.queue, x.body = o.body) ∨
        (∃ x y, s.line.txn = some x ∧ x.carried = .order y ∧ y.body = o.body) ∨
        (s.env.tables.profile.busMin ≤ v ∧ v ≤ s.env.tables.profile.busMax) ∨
        (t.env.tables.profile.busMin ≤ v ∧ v ≤ t.env.tables.profile.busMax)) ∧
    (trimLaw s.env.mode s.plant.charge → trimLaw t.env.mode t.plant.charge) ∧
    (s.plant.timerLaw → t.plant.timerLaw) ∧ (s.plant.outputLaw → t.plant.outputLaw) ∧
    (s.plant.gen.attemptLaw → t.plant.gen.attemptLaw) ∧
    (relayLaw s.env s.plant → relayLaw t.env t.plant) ∧
    (s.plant.agenda = [] → t.plant.agenda = [] → s.plant.testLaw → t.plant.testLaw)

/-- 07 R133 and R137 to R149: every command keeps the duty list, the out-of-service set and the walk-in
queue what the statuses say, once each; a rotation's incoming rectifier in the duty list; at most three
times in a fault history; and the follow and recovery timers in their statuses. Where the hand-ons have all
been worked off, before the step and after it (log entry 9): in AUTO outside START_UP the target stays at or
above the floor and the active set at or above the target, so that the records in ACTIVE or WALKING_IN
number at least the smaller of N_min and the duty list's length (R142's law); and no limit last composed for
an ACTIVE rectifier is above its share, so that they sum to no more than the allowance (R151's law). An
ACTIVE record without a last report has none composed, the model's choice (log entry 47). -/
def Obligations.DutyCollectionsAreKept : Prop :=
  ∀ (c : Instr) (s t : State), exec c s = .next t → s.plant.rect.law → t.plant.rect.law ∧
    (s.plant.agenda = [] → t.plant.agenda = [] →
      (s.plant.floorLaw s.env → t.plant.floorLaw t.env ∧
        (t.env.mode = .auto → t.plant.charge.state ≠ .startUp →
          min t.env.tables.rectifier.nMin t.plant.rect.duty.length ≤
            ((indices 12).filter fun u => t.plant.rect.status u == .active ||
              t.plant.rect.status u == .walkingIn).length)) ∧
      (s.plant.composedLaw s.env → t.plant.composedLaw t.env ∧
        ∀ a, t.plant.gen.allowance = some a →
          (((indices 12).filter fun u => t.plant.rect.status u == .active).map fun u =>
            match t.plant.rect.records[u].composed with
            | some (_, l) => l
            | none => 0).sum ≤ a))
end

