-- ==== Sys2Proof/Laws/State.lean ====
section
/-! SUPPORT. What each named update of the state leaves: one lemma per field and update, for simp. -/

namespace Sys2Proof.Machine

/-! ### The whole state -/

@[simp] theorem State.onPort_pending (f : Port → Port) (s : State) : (s.onPort f).pending = s.pending := rfl
@[simp] theorem State.onPort_port (f : Port → Port) (s : State) : (s.onPort f).port = f s.port := rfl
@[simp] theorem State.onPort_request (f : Port → Port) (s : State) : (s.onPort f).request = s.request := rfl
@[simp] theorem State.onPort_store (f : Port → Port) (s : State) : (s.onPort f).store = s.store := rfl
@[simp] theorem State.onPort_env (f : Port → Port) (s : State) : (s.onPort f).env = s.env := rfl
@[simp] theorem State.onPort_line (f : Port → Port) (s : State) : (s.onPort f).line = s.line := rfl
@[simp] theorem State.onPort_plant (f : Port → Port) (s : State) : (s.onPort f).plant = s.plant := rfl

@[simp] theorem State.onRequest_pending (f : RequestUnit → RequestUnit) (s : State) : (s.onRequest f).pending = s.pending := rfl
@[simp] theorem State.onRequest_port (f : RequestUnit → RequestUnit) (s : State) : (s.onRequest f).port = s.port := rfl
@[simp] theorem State.onRequest_request (f : RequestUnit → RequestUnit) (s : State) : (s.onRequest f).request = f s.request := rfl
@[simp] theorem State.onRequest_store (f : RequestUnit → RequestUnit) (s : State) : (s.onRequest f).store = s.store := rfl
@[simp] theorem State.onRequest_env (f : RequestUnit → RequestUnit) (s : State) : (s.onRequest f).env = s.env := rfl
@[simp] theorem State.onRequest_line (f : RequestUnit → RequestUnit) (s : State) : (s.onRequest f).line = s.line := rfl
@[simp] theorem State.onRequest_plant (f : RequestUnit → RequestUnit) (s : State) : (s.onRequest f).plant = s.plant := rfl

@[simp] theorem State.onLine_pending (f : Line → Line) (s : State) : (s.onLine f).pending = s.pending := rfl
@[simp] theorem State.onLine_port (f : Line → Line) (s : State) : (s.onLine f).port = s.port := rfl
@[simp] theorem State.onLine_request (f : Line → Line) (s : State) : (s.onLine f).request = s.request := rfl
@[simp] theorem State.onLine_store (f : Line → Line) (s : State) : (s.onLine f).store = s.store := rfl
@[simp] theorem State.onLine_env (f : Line → Line) (s : State) : (s.onLine f).env = s.env := rfl
@[simp] theorem State.onLine_line (f : Line → Line) (s : State) : (s.onLine f).line = f s.line := rfl
@[simp] theorem State.onLine_plant (f : Line → Line) (s : State) : (s.onLine f).plant = s.plant := rfl

@[simp] theorem State.onPlant_pending (f : Env → Plant → Plant) (s : State) : (s.onPlant f).pending = s.pending := rfl
@[simp] theorem State.onPlant_port (f : Env → Plant → Plant) (s : State) : (s.onPlant f).port = s.port := rfl
@[simp] theorem State.onPlant_request (f : Env → Plant → Plant) (s : State) : (s.onPlant f).request = s.request := rfl
@[simp] theorem State.onPlant_store (f : Env → Plant → Plant) (s : State) : (s.onPlant f).store = s.store := rfl
@[simp] theorem State.onPlant_env (f : Env → Plant → Plant) (s : State) : (s.onPlant f).env = s.env := rfl
@[simp] theorem State.onPlant_line (f : Env → Plant → Plant) (s : State) : (s.onPlant f).line = s.line := rfl
@[simp] theorem State.onPlant_plant (f : Env → Plant → Plant) (s : State) : (s.onPlant f).plant = f s.env s.plant := rfl

@[simp] theorem State.post_pending (l : List Signal) (s : State) : (s.post l).pending = s.pending := rfl
@[simp] theorem State.post_port (l : List Signal) (s : State) : (s.post l).port = s.port := rfl
@[simp] theorem State.post_request (l : List Signal) (s : State) : (s.post l).request = s.request := rfl
@[simp] theorem State.post_store (l : List Signal) (s : State) : (s.post l).store = s.store := rfl
@[simp] theorem State.post_env (l : List Signal) (s : State) : (s.post l).env = s.env := rfl
@[simp] theorem State.post_line (l : List Signal) (s : State) : (s.post l).line = s.line := rfl
@[simp] theorem State.post_plant (l : List Signal) (s : State) : (s.post l).plant = s.plant.post l := rfl

@[simp] theorem State.withTables_pending (t : Tables) (s : State) : (s.withTables t).pending = s.pending := rfl
@[simp] theorem State.withTables_port (t : Tables) (s : State) : (s.withTables t).port = s.port := rfl
@[simp] theorem State.withTables_request (t : Tables) (s : State) : (s.withTables t).request = s.request := rfl
@[simp] theorem State.withTables_store (t : Tables) (s : State) : (s.withTables t).store = s.store := rfl
@[simp] theorem State.withTables_line (t : Tables) (s : State) : (s.withTables t).line = s.line := rfl
@[simp] theorem State.withTables_plant (t : Tables) (s : State) : (s.withTables t).plant = s.plant := rfl

@[simp] theorem State.settle_pending (s : State) : (s.settle).pending = s.pending := rfl
@[simp] theorem State.settle_port (s : State) : (s.settle).port = s.port := rfl
@[simp] theorem State.settle_request (s : State) : (s.settle).request = s.request := rfl
@[simp] theorem State.settle_store (s : State) : (s.settle).store = s.store := rfl
@[simp] theorem State.settle_env (s : State) : (s.settle).env = s.env := rfl
@[simp] theorem State.settle_line (s : State) : (s.settle).line = s.line := rfl
@[simp] theorem State.settle_plant (s : State) : (s.settle).plant = s.plant.settle s.env agendaBound [] := rfl

@[simp] theorem State.finish_pending (s : State) : (s.finish).pending = s.pending := rfl
@[simp] theorem State.finish_port (s : State) : (s.finish).port = s.port := rfl
@[simp] theorem State.finish_request (s : State) : (s.finish).request = s.request := rfl
@[simp] theorem State.finish_store (s : State) : (s.finish).store = s.store := rfl
@[simp] theorem State.finish_env (s : State) : (s.finish).env = s.env := rfl
@[simp] theorem State.finish_line (s : State) : (s.finish).line = s.line := rfl
@[simp] theorem State.finish_plant (s : State) : (s.finish).plant = (s.plant.settle s.env agendaBound []).driveRelays s.env := rfl

@[simp] theorem State.advance_pending (dt : Nat) (s : State) : (s.advance dt).pending = s.pending := rfl
@[simp] theorem State.advance_port (dt : Nat) (s : State) : (s.advance dt).port = s.port := rfl
@[simp] theorem State.advance_request (dt : Nat) (s : State) : (s.advance dt).request = s.request := rfl
@[simp] theorem State.advance_store (dt : Nat) (s : State) : (s.advance dt).store = s.store := rfl
@[simp] theorem State.advance_line (dt : Nat) (s : State) : (s.advance dt).line = s.line := rfl
@[simp] theorem State.advance_plant (dt : Nat) (s : State) : (s.advance dt).plant = s.plant.elapse s.env dt := rfl

@[simp] theorem State.bringTo_pending (t : Nat) (s : State) : (s.bringTo t).pending = s.pending := rfl
@[simp] theorem State.bringTo_port (t : Nat) (s : State) : (s.bringTo t).port = s.port := rfl
@[simp] theorem State.bringTo_request (t : Nat) (s : State) : (s.bringTo t).request = s.request := rfl
@[simp] theorem State.bringTo_store (t : Nat) (s : State) : (s.bringTo t).store = s.store := rfl
@[simp] theorem State.bringTo_line (t : Nat) (s : State) : (s.bringTo t).line = s.line := rfl
@[simp] theorem State.bringTo_plant (t : Nat) (s : State) : (s.bringTo t).plant = s.plant.elapse s.env (t - s.env.clock.now) := rfl

@[simp] theorem State.restartSilence_pending (s : State) : (s.restartSilence).pending = s.pending := rfl
@[simp] theorem State.restartSilence_port (s : State) : (s.restartSilence).port = s.port := rfl
@[simp] theorem State.restartSilence_store (s : State) : (s.restartSilence).store = s.store := rfl
@[simp] theorem State.restartSilence_env (s : State) : (s.restartSilence).env = s.env := rfl
@[simp] theorem State.restartSilence_line (s : State) : (s.restartSilence).line = s.line := rfl
@[simp] theorem State.restartSilence_plant (s : State) : (s.restartSilence).plant = s.plant := rfl

@[simp] theorem State.heard_pending (s : State) : (s.heard).pending = s.pending := rfl
@[simp] theorem State.heard_port (s : State) : (s.heard).port = s.port := rfl
@[simp] theorem State.heard_store (s : State) : (s.heard).store = s.store := rfl
@[simp] theorem State.heard_env (s : State) : (s.heard).env = s.env := rfl
@[simp] theorem State.heard_line (s : State) : (s.heard).line = s.line := rfl

@[simp] theorem State.toManual_pending (s : State) : (s.toManual).pending = s.pending := rfl
@[simp] theorem State.toManual_port (s : State) : (s.toManual).port = s.port := rfl
@[simp] theorem State.toManual_request (s : State) : (s.toManual).request = s.request := rfl
@[simp] theorem State.toManual_store (s : State) : (s.toManual).store = s.store := rfl
@[simp] theorem State.toManual_line (s : State) : (s.toManual).line = s.line.manual := rfl

@[simp] theorem State.toAuto_pending (s : State) : (s.toAuto).pending = s.pending := rfl
@[simp] theorem State.toAuto_port (s : State) : (s.toAuto).port = s.port := rfl
@[simp] theorem State.toAuto_request (s : State) : (s.toAuto).request = s.request := rfl
@[simp] theorem State.toAuto_store (s : State) : (s.toAuto).store = s.store := rfl
@[simp] theorem State.toAuto_line (s : State) : (s.toAuto).line = s.line := rfl

@[simp] theorem State.endTxn_pending (s : State) : (s.endTxn).pending = s.pending := rfl
@[simp] theorem State.endTxn_port (s : State) : (s.endTxn).port = s.port := rfl
@[simp] theorem State.endTxn_request (s : State) : (s.endTxn).request = s.request := rfl
@[simp] theorem State.endTxn_store (s : State) : (s.endTxn).store = s.store := rfl
@[simp] theorem State.endTxn_env (s : State) : (s.endTxn).env = s.env := rfl
@[simp] theorem State.endTxn_plant (s : State) : (s.endTxn).plant = s.plant := rfl

@[simp] theorem State.complete_pending (tag : Byte) (o : ExOutcome) (r : Option (List Byte)) (s : State) : (s.complete tag o r).pending = s.pending := rfl
@[simp] theorem State.complete_port (tag : Byte) (o : ExOutcome) (r : Option (List Byte)) (s : State) : (s.complete tag o r).port = s.port := rfl
@[simp] theorem State.complete_request (tag : Byte) (o : ExOutcome) (r : Option (List Byte)) (s : State) : (s.complete tag o r).request = s.request := rfl
@[simp] theorem State.complete_store (tag : Byte) (o : ExOutcome) (r : Option (List Byte)) (s : State) : (s.complete tag o r).store = s.store := rfl
@[simp] theorem State.complete_env (tag : Byte) (o : ExOutcome) (r : Option (List Byte)) (s : State) : (s.complete tag o r).env = s.env := rfl
@[simp] theorem State.complete_plant (tag : Byte) (o : ExOutcome) (r : Option (List Byte)) (s : State) : (s.complete tag o r).plant = s.plant := rfl

@[simp] theorem State.sendPoll_pending (r : Station × Nat × Nat) (s : State) : (s.sendPoll r).pending = s.pending := rfl
@[simp] theorem State.sendPoll_port (r : Station × Nat × Nat) (s : State) : (s.sendPoll r).port = s.port := rfl
@[simp] theorem State.sendPoll_request (r : Station × Nat × Nat) (s : State) : (s.sendPoll r).request = s.request := rfl
@[simp] theorem State.sendPoll_store (r : Station × Nat × Nat) (s : State) : (s.sendPoll r).store = s.store := rfl
@[simp] theorem State.sendPoll_env (r : Station × Nat × Nat) (s : State) : (s.sendPoll r).env = s.env := rfl
@[simp] theorem State.sendPoll_plant (r : Station × Nat × Nat) (s : State) : (s.sendPoll r).plant = s.plant := rfl

@[simp] theorem State.sendExchange_pending (x : Exchange) (s : State) : (s.sendExchange x).pending = s.pending := rfl
@[simp] theorem State.sendExchange_port (x : Exchange) (s : State) : (s.sendExchange x).port = s.port := rfl
@[simp] theorem State.sendExchange_request (x : Exchange) (s : State) : (s.sendExchange x).request = s.request := rfl
@[simp] theorem State.sendExchange_store (x : Exchange) (s : State) : (s.sendExchange x).store = s.store := rfl
@[simp] theorem State.sendExchange_env (x : Exchange) (s : State) : (s.sendExchange x).env = s.env := rfl
@[simp] theorem State.sendExchange_plant (x : Exchange) (s : State) : (s.sendExchange x).plant = s.plant := rfl

@[simp] theorem State.takeSample_pending (i : InputIx) (closed : Bool) (s : State) : (s.takeSample i closed).pending = s.pending := rfl
@[simp] theorem State.takeSample_port (i : InputIx) (closed : Bool) (s : State) : (s.takeSample i closed).port = s.port := rfl
@[simp] theorem State.takeSample_request (i : InputIx) (closed : Bool) (s : State) : (s.takeSample i closed).request = s.request := rfl
@[simp] theorem State.takeSample_store (i : InputIx) (closed : Bool) (s : State) : (s.takeSample i closed).store = s.store := rfl
@[simp] theorem State.takeSample_line (i : InputIx) (closed : Bool) (s : State) : (s.takeSample i closed).line = s.line := rfl

@[simp] theorem State.saveEnds_pending (d : List Byte) (s : State) : (s.saveEnds d).pending = s.pending := rfl
@[simp] theorem State.saveEnds_port (d : List Byte) (s : State) : (s.saveEnds d).port = s.port := rfl
@[simp] theorem State.saveEnds_env (d : List Byte) (s : State) : (s.saveEnds d).env = s.env := rfl
@[simp] theorem State.saveEnds_line (d : List Byte) (s : State) : (s.saveEnds d).line = s.line := rfl

@[simp] theorem State.advance_env_tables (dt : Nat) (s : State) : (s.advance dt).env.tables = s.env.tables := rfl
@[simp] theorem State.advance_env_mode (dt : Nat) (s : State) : (s.advance dt).env.mode = s.env.mode := rfl
@[simp] theorem State.advance_env_inputs (dt : Nat) (s : State) : (s.advance dt).env.inputs = s.env.inputs := rfl
@[simp] theorem State.advance_clock_site (dt : Nat) (s : State) : (s.advance dt).env.clock.site = s.env.clock.site := rfl
@[simp] theorem State.advance_clock_siteSet (dt : Nat) (s : State) : (s.advance dt).env.clock.siteSet = s.env.clock.siteSet := rfl
@[simp] theorem State.advance_clock_secondStart (dt : Nat) (s : State) : (s.advance dt).env.clock.secondStart = s.env.clock.secondStart := rfl
@[simp] theorem State.bringTo_env_tables (t : Nat) (s : State) : (s.bringTo t).env.tables = s.env.tables := rfl
@[simp] theorem State.bringTo_env_mode (t : Nat) (s : State) : (s.bringTo t).env.mode = s.env.mode := rfl
@[simp] theorem State.bringTo_env_inputs (t : Nat) (s : State) : (s.bringTo t).env.inputs = s.env.inputs := rfl
@[simp] theorem State.bringTo_clock_site (t : Nat) (s : State) : (s.bringTo t).env.clock.site = s.env.clock.site := rfl
@[simp] theorem State.bringTo_clock_siteSet (t : Nat) (s : State) : (s.bringTo t).env.clock.siteSet = s.env.clock.siteSet := rfl
@[simp] theorem State.bringTo_clock_secondStart (t : Nat) (s : State) : (s.bringTo t).env.clock.secondStart = s.env.clock.secondStart := rfl
@[simp] theorem State.advance_now (dt : Nat) (s : State) : (s.advance dt).env.clock.now = s.env.clock.now + dt := rfl
@[simp] theorem State.bringTo_now (t : Nat) (s : State) :
    (s.bringTo t).env.clock.now = max s.env.clock.now t := by
  show s.env.clock.now + (t - s.env.clock.now) = _
  omega

/-! ### The plant -/

@[simp] theorem Plant.post_links (l : List Signal) (p : Plant) : (p.post l).links = p.links := rfl
@[simp] theorem Plant.post_queue (l : List Signal) (p : Plant) : (p.post l).queue = p.queue := rfl
@[simp] theorem Plant.post_strings (l : List Signal) (p : Plant) : (p.post l).strings = p.strings := rfl
@[simp] theorem Plant.post_battery (l : List Signal) (p : Plant) : (p.post l).battery = p.battery := rfl
@[simp] theorem Plant.post_charge (l : List Signal) (p : Plant) : (p.post l).charge = p.charge := rfl
@[simp] theorem Plant.post_test (l : List Signal) (p : Plant) : (p.post l).test = p.test := rfl
@[simp] theorem Plant.post_ld (l : List Signal) (p : Plant) : (p.post l).ld = p.ld := rfl
@[simp] theorem Plant.post_rect (l : List Signal) (p : Plant) : (p.post l).rect = p.rect := rfl
@[simp] theorem Plant.post_gen (l : List Signal) (p : Plant) : (p.post l).gen = p.gen := rfl
@[simp] theorem Plant.post_alarms (l : List Signal) (p : Plant) : (p.post l).alarms = p.alarms := rfl
@[simp] theorem Plant.post_outputs (l : List Signal) (p : Plant) : (p.post l).outputs = p.outputs := rfl
@[simp] theorem Plant.post_agenda (l : List Signal) (p : Plant) : (p.post l).agenda = p.agenda ++ l := rfl

@[simp] theorem Plant.onRect_links (f : RectUnit → RectUnit) (p : Plant) : (p.onRect f).links = p.links := rfl
@[simp] theorem Plant.onRect_queue (f : RectUnit → RectUnit) (p : Plant) : (p.onRect f).queue = p.queue := rfl
@[simp] theorem Plant.onRect_strings (f : RectUnit → RectUnit) (p : Plant) : (p.onRect f).strings = p.strings := rfl
@[simp] theorem Plant.onRect_battery (f : RectUnit → RectUnit) (p : Plant) : (p.onRect f).battery = p.battery := rfl
@[simp] theorem Plant.onRect_charge (f : RectUnit → RectUnit) (p : Plant) : (p.onRect f).charge = p.charge := rfl
@[simp] theorem Plant.onRect_test (f : RectUnit → RectUnit) (p : Plant) : (p.onRect f).test = p.test := rfl
@[simp] theorem Plant.onRect_ld (f : RectUnit → RectUnit) (p : Plant) : (p.onRect f).ld = p.ld := rfl
@[simp] theorem Plant.onRect_rect (f : RectUnit → RectUnit) (p : Plant) : (p.onRect f).rect = f p.rect := rfl
@[simp] theorem Plant.onRect_gen (f : RectUnit → RectUnit) (p : Plant) : (p.onRect f).gen = p.gen := rfl
@[simp] theorem Plant.onRect_alarms (f : RectUnit → RectUnit) (p : Plant) : (p.onRect f).alarms = p.alarms := rfl
@[simp] theorem Plant.onRect_outputs (f : RectUnit → RectUnit) (p : Plant) : (p.onRect f).outputs = p.outputs := rfl
@[simp] theorem Plant.onRect_agenda (f : RectUnit → RectUnit) (p : Plant) : (p.onRect f).agenda = p.agenda := rfl

@[simp] theorem Plant.onGen_links (f : GenUnit → GenUnit) (p : Plant) : (p.onGen f).links = p.links := rfl
@[simp] theorem Plant.onGen_queue (f : GenUnit → GenUnit) (p : Plant) : (p.onGen f).queue = p.queue := rfl
@[simp] theorem Plant.onGen_strings (f : GenUnit → GenUnit) (p : Plant) : (p.onGen f).strings = p.strings := rfl
@[simp] theorem Plant.onGen_battery (f : GenUnit → GenUnit) (p : Plant) : (p.onGen f).battery = p.battery := rfl
@[simp] theorem Plant.onGen_charge (f : GenUnit → GenUnit) (p : Plant) : (p.onGen f).charge = p.charge := rfl
@[simp] theorem Plant.onGen_test (f : GenUnit → GenUnit) (p : Plant) : (p.onGen f).test = p.test := rfl
@[simp] theorem Plant.onGen_ld (f : GenUnit → GenUnit) (p : Plant) : (p.onGen f).ld = p.ld := rfl
@[simp] theorem Plant.onGen_rect (f : GenUnit → GenUnit) (p : Plant) : (p.onGen f).rect = p.rect := rfl
@[simp] theorem Plant.onGen_gen (f : GenUnit → GenUnit) (p : Plant) : (p.onGen f).gen = f p.gen := rfl
@[simp] theorem Plant.onGen_alarms (f : GenUnit → GenUnit) (p : Plant) : (p.onGen f).alarms = p.alarms := rfl
@[simp] theorem Plant.onGen_outputs (f : GenUnit → GenUnit) (p : Plant) : (p.onGen f).outputs = p.outputs := rfl
@[simp] theorem Plant.onGen_agenda (f : GenUnit → GenUnit) (p : Plant) : (p.onGen f).agenda = p.agenda := rfl

@[simp] theorem Plant.modifyRect_links (u : RectIx) (f : RectRec → RectRec) (p : Plant) : (p.modifyRect u f).links = p.links := rfl
@[simp] theorem Plant.modifyRect_queue (u : RectIx) (f : RectRec → RectRec) (p : Plant) : (p.modifyRect u f).queue = p.queue := rfl
@[simp] theorem Plant.modifyRect_strings (u : RectIx) (f : RectRec → RectRec) (p : Plant) : (p.modifyRect u f).strings = p.strings := rfl
@[simp] theorem Plant.modifyRect_battery (u : RectIx) (f : RectRec → RectRec) (p : Plant) : (p.modifyRect u f).battery = p.battery := rfl
@[simp] theorem Plant.modifyRect_charge (u : RectIx) (f : RectRec → RectRec) (p : Plant) : (p.modifyRect u f).charge = p.charge := rfl
@[simp] theorem Plant.modifyRect_test (u : RectIx) (f : RectRec → RectRec) (p : Plant) : (p.modifyRect u f).test = p.test := rfl
@[simp] theorem Plant.modifyRect_ld (u : RectIx) (f : RectRec → RectRec) (p : Plant) : (p.modifyRect u f).ld = p.ld := rfl
@[simp] theorem Plant.modifyRect_rect (u : RectIx) (f : RectRec → RectRec) (p : Plant) : (p.modifyRect u f).rect = p.rect.modify u f := rfl
@[simp] theorem Plant.modifyRect_gen (u : RectIx) (f : RectRec → RectRec) (p : Plant) : (p.modifyRect u f).gen = p.gen := rfl
@[simp] theorem Plant.modifyRect_alarms (u : RectIx) (f : RectRec → RectRec) (p : Plant) : (p.modifyRect u f).alarms = p.alarms := rfl
@[simp] theorem Plant.modifyRect_outputs (u : RectIx) (f : RectRec → RectRec) (p : Plant) : (p.modifyRect u f).outputs = p.outputs := rfl
@[simp] theorem Plant.modifyRect_agenda (u : RectIx) (f : RectRec → RectRec) (p : Plant) : (p.modifyRect u f).agenda = p.agenda := rfl

@[simp] theorem Plant.modifyPoint_links (i : PointIx) (f : Point → Point) (p : Plant) : (p.modifyPoint i f).links = p.links := rfl
@[simp] theorem Plant.modifyPoint_queue (i : PointIx) (f : Point → Point) (p : Plant) : (p.modifyPoint i f).queue = p.queue := rfl
@[simp] theorem Plant.modifyPoint_strings (i : PointIx) (f : Point → Point) (p : Plant) : (p.modifyPoint i f).strings = p.strings := rfl
@[simp] theorem Plant.modifyPoint_battery (i : PointIx) (f : Point → Point) (p : Plant) : (p.modifyPoint i f).battery = p.battery := rfl
@[simp] theorem Plant.modifyPoint_charge (i : PointIx) (f : Point → Point) (p : Plant) : (p.modifyPoint i f).charge = p.charge := rfl
@[simp] theorem Plant.modifyPoint_test (i : PointIx) (f : Point → Point) (p : Plant) : (p.modifyPoint i f).test = p.test := rfl
@[simp] theorem Plant.modifyPoint_ld (i : PointIx) (f : Point → Point) (p : Plant) : (p.modifyPoint i f).ld = p.ld := rfl
@[simp] theorem Plant.modifyPoint_rect (i : PointIx) (f : Point → Point) (p : Plant) : (p.modifyPoint i f).rect = p.rect := rfl
@[simp] theorem Plant.modifyPoint_gen (i : PointIx) (f : Point → Point) (p : Plant) : (p.modifyPoint i f).gen = p.gen := rfl
@[simp] theorem Plant.modifyPoint_outputs (i : PointIx) (f : Point → Point) (p : Plant) : (p.modifyPoint i f).outputs = p.outputs := rfl
@[simp] theorem Plant.modifyPoint_agenda (i : PointIx) (f : Point → Point) (p : Plant) : (p.modifyPoint i f).agenda = p.agenda := rfl

@[simp] theorem Plant.modifyString_links (i : StringIx) (f : StringRec → StringRec) (p : Plant) : (p.modifyString i f).links = p.links := rfl
@[simp] theorem Plant.modifyString_queue (i : StringIx) (f : StringRec → StringRec) (p : Plant) : (p.modifyString i f).queue = p.queue := rfl
@[simp] theorem Plant.modifyString_strings (i : StringIx) (f : StringRec → StringRec) (p : Plant) : (p.modifyString i f).strings = put p.strings i (f p.strings[i]) := rfl
@[simp] theorem Plant.modifyString_battery (i : StringIx) (f : StringRec → StringRec) (p : Plant) : (p.modifyString i f).battery = p.battery := rfl
@[simp] theorem Plant.modifyString_charge (i : StringIx) (f : StringRec → StringRec) (p : Plant) : (p.modifyString i f).charge = p.charge := rfl
@[simp] theorem Plant.modifyString_test (i : StringIx) (f : StringRec → StringRec) (p : Plant) : (p.modifyString i f).test = p.test := rfl
@[simp] theorem Plant.modifyString_ld (i : StringIx) (f : StringRec → StringRec) (p : Plant) : (p.modifyString i f).ld = p.ld := rfl
@[simp] theorem Plant.modifyString_rect (i : StringIx) (f : StringRec → StringRec) (p : Plant) : (p.modifyString i f).rect = p.rect := rfl
@[simp] theorem Plant.modifyString_gen (i : StringIx) (f : StringRec → StringRec) (p : Plant) : (p.modifyString i f).gen = p.gen := rfl
@[simp] theorem Plant.modifyString_alarms (i : StringIx) (f : StringRec → StringRec) (p : Plant) : (p.modifyString i f).alarms = p.alarms := rfl
@[simp] theorem Plant.modifyString_outputs (i : StringIx) (f : StringRec → StringRec) (p : Plant) : (p.modifyString i f).outputs = p.outputs := rfl
@[simp] theorem Plant.modifyString_agenda (i : StringIx) (f : StringRec → StringRec) (p : Plant) : (p.modifyString i f).agenda = p.agenda := rfl

@[simp] theorem Plant.driveRelays_links (e : Env) (p : Plant) : (p.driveRelays e).links = p.links := rfl
@[simp] theorem Plant.driveRelays_queue (e : Env) (p : Plant) : (p.driveRelays e).queue = p.queue := rfl
@[simp] theorem Plant.driveRelays_strings (e : Env) (p : Plant) : (p.driveRelays e).strings = p.strings := rfl
@[simp] theorem Plant.driveRelays_battery (e : Env) (p : Plant) : (p.driveRelays e).battery = p.battery := rfl
@[simp] theorem Plant.driveRelays_charge (e : Env) (p : Plant) : (p.driveRelays e).charge = p.charge := rfl
@[simp] theorem Plant.driveRelays_test (e : Env) (p : Plant) : (p.driveRelays e).test = p.test := rfl
@[simp] theorem Plant.driveRelays_ld (e : Env) (p : Plant) : (p.driveRelays e).ld = p.ld := rfl
@[simp] theorem Plant.driveRelays_rect (e : Env) (p : Plant) : (p.driveRelays e).rect = p.rect := rfl
@[simp] theorem Plant.driveRelays_gen (e : Env) (p : Plant) : (p.driveRelays e).gen = p.gen := rfl
@[simp] theorem Plant.driveRelays_alarms (e : Env) (p : Plant) : (p.driveRelays e).alarms = p.alarms := rfl
@[simp] theorem Plant.driveRelays_agenda (e : Env) (p : Plant) : (p.driveRelays e).agenda = p.agenda := rfl

@[simp] theorem Plant.elapse_links (e : Env) (dt : Nat) (p : Plant) : (p.elapse e dt).links = p.links := rfl
@[simp] theorem Plant.elapse_queue (e : Env) (dt : Nat) (p : Plant) : (p.elapse e dt).queue = p.queue := rfl
@[simp] theorem Plant.elapse_strings (e : Env) (dt : Nat) (p : Plant) : (p.elapse e dt).strings = p.strings := rfl
@[simp] theorem Plant.elapse_battery (e : Env) (dt : Nat) (p : Plant) : (p.elapse e dt).battery = p.battery := rfl
@[simp] theorem Plant.elapse_ld (e : Env) (dt : Nat) (p : Plant) : (p.elapse e dt).ld = p.ld := rfl
@[simp] theorem Plant.elapse_alarms (e : Env) (dt : Nat) (p : Plant) : (p.elapse e dt).alarms = p.alarms := rfl
@[simp] theorem Plant.elapse_outputs (e : Env) (dt : Nat) (p : Plant) : (p.elapse e dt).outputs = p.outputs := rfl
@[simp] theorem Plant.elapse_agenda (e : Env) (dt : Nat) (p : Plant) : (p.elapse e dt).agenda = p.agenda := rfl

@[simp] theorem Plant.storeSetpoint_links (e : Env) (p : Plant) : (p.storeSetpoint e).links = p.links := rfl
@[simp] theorem Plant.storeSetpoint_queue (e : Env) (p : Plant) : (p.storeSetpoint e).queue = p.queue := rfl
@[simp] theorem Plant.storeSetpoint_strings (e : Env) (p : Plant) : (p.storeSetpoint e).strings = p.strings := rfl
@[simp] theorem Plant.storeSetpoint_battery (e : Env) (p : Plant) : (p.storeSetpoint e).battery = p.battery := rfl
@[simp] theorem Plant.storeSetpoint_charge (e : Env) (p : Plant) : (p.storeSetpoint e).charge = p.charge.setpointFrom e.tables.profile p.battery.tComp := rfl
@[simp] theorem Plant.storeSetpoint_ld (e : Env) (p : Plant) : (p.storeSetpoint e).ld = p.ld := rfl
@[simp] theorem Plant.storeSetpoint_rect (e : Env) (p : Plant) : (p.storeSetpoint e).rect = p.rect := rfl
@[simp] theorem Plant.storeSetpoint_gen (e : Env) (p : Plant) : (p.storeSetpoint e).gen = p.gen := rfl
@[simp] theorem Plant.storeSetpoint_alarms (e : Env) (p : Plant) : (p.storeSetpoint e).alarms = p.alarms := rfl
@[simp] theorem Plant.storeSetpoint_outputs (e : Env) (p : Plant) : (p.storeSetpoint e).outputs = p.outputs := rfl
@[simp] theorem Plant.storeSetpoint_agenda (e : Env) (p : Plant) : (p.storeSetpoint e).agenda = p.agenda := rfl

@[simp] theorem Plant.workQuantities_links (e : Env) (p : Plant) : (p.workQuantities e).links = p.links := rfl
@[simp] theorem Plant.workQuantities_queue (e : Env) (p : Plant) : (p.workQuantities e).queue = p.queue := rfl
@[simp] theorem Plant.workQuantities_strings (e : Env) (p : Plant) : (p.workQuantities e).strings = p.strings := rfl
@[simp] theorem Plant.workQuantities_charge (e : Env) (p : Plant) : (p.workQuantities e).charge = p.charge := rfl
@[simp] theorem Plant.workQuantities_test (e : Env) (p : Plant) : (p.workQuantities e).test = p.test := rfl
@[simp] theorem Plant.workQuantities_ld (e : Env) (p : Plant) : (p.workQuantities e).ld = p.ld := rfl
@[simp] theorem Plant.workQuantities_rect (e : Env) (p : Plant) : (p.workQuantities e).rect = p.rect := rfl
@[simp] theorem Plant.workQuantities_gen (e : Env) (p : Plant) : (p.workQuantities e).gen = p.gen := rfl
@[simp] theorem Plant.workQuantities_alarms (e : Env) (p : Plant) : (p.workQuantities e).alarms = p.alarms := rfl
@[simp] theorem Plant.workQuantities_outputs (e : Env) (p : Plant) : (p.workQuantities e).outputs = p.outputs := rfl
@[simp] theorem Plant.workQuantities_agenda (e : Env) (p : Plant) : (p.workQuantities e).agenda = p.agenda := rfl

@[simp] theorem Plant.modifyPoint_alarms_points (i : PointIx) (f : Point → Point) (p : Plant) :
    (p.modifyPoint i f).alarms.points = put p.alarms.points i (f p.alarms.points[i]) := rfl
@[simp] theorem Plant.modifyPoint_alarms_notices (i : PointIx) (f : Point → Point) (p : Plant) :
    (p.modifyPoint i f).alarms.notices = p.alarms.notices := rfl
@[simp] theorem Plant.modifyPoint_alarms_overflow (i : PointIx) (f : Point → Point) (p : Plant) :
    (p.modifyPoint i f).alarms.overflow = p.alarms.overflow := rfl
@[simp] theorem Plant.modifyPoint_alarms_history (i : PointIx) (f : Point → Point) (p : Plant) :
    (p.modifyPoint i f).alarms.history = p.alarms.history := rfl
@[simp] theorem Plant.modifyPoint_alarms_nextSeq (i : PointIx) (f : Point → Point) (p : Plant) :
    (p.modifyPoint i f).alarms.nextSeq = p.alarms.nextSeq := rfl
@[simp] theorem Plant.modifyPoint_alarms_capture (i : PointIx) (f : Point → Point) (p : Plant) :
    (p.modifyPoint i f).alarms.capture = p.alarms.capture := rfl

/-! ### The rectifier duty unit -/

@[simp] theorem RectUnit.modify_duty (u : RectIx) (f : RectRec → RectRec) (r : RectUnit) : (r.modify u f).duty = r.duty := rfl
@[simp] theorem RectUnit.modify_out (u : RectIx) (f : RectRec → RectRec) (r : RectUnit) : (r.modify u f).out = r.out := rfl
@[simp] theorem RectUnit.modify_walkIn (u : RectIx) (f : RectRec → RectRec) (r : RectUnit) : (r.modify u f).walkIn = r.walkIn := rfl
@[simp] theorem RectUnit.modify_target (u : RectIx) (f : RectRec → RectRec) (r : RectUnit) : (r.modify u f).target = r.target := rfl
@[simp] theorem RectUnit.modify_sizing (u : RectIx) (f : RectRec → RectRec) (r : RectUnit) : (r.modify u f).sizing = r.sizing := rfl
@[simp] theorem RectUnit.modify_shed (u : RectIx) (f : RectRec → RectRec) (r : RectUnit) : (r.modify u f).shed = r.shed := rfl
@[simp] theorem RectUnit.modify_shedDue (u : RectIx) (f : RectRec → RectRec) (r : RectUnit) : (r.modify u f).shedDue = r.shedDue := rfl
@[simp] theorem RectUnit.modify_stagger (u : RectIx) (f : RectRec → RectRec) (r : RectUnit) : (r.modify u f).stagger = r.stagger := rfl
@[simp] theorem RectUnit.modify_refresh (u : RectIx) (f : RectRec → RectRec) (r : RectUnit) : (r.modify u f).refresh = r.refresh := rfl
@[simp] theorem RectUnit.modify_rotationCount (u : RectIx) (f : RectRec → RectRec) (r : RectUnit) : (r.modify u f).rotationCount = r.rotationCount := rfl
@[simp] theorem RectUnit.modify_rotationPending (u : RectIx) (f : RectRec → RectRec) (r : RectUnit) : (r.modify u f).rotationPending = r.rotationPending := rfl
@[simp] theorem RectUnit.modify_inFlight (u : RectIx) (f : RectRec → RectRec) (r : RectUnit) : (r.modify u f).inFlight = r.inFlight := rfl
@[simp] theorem RectUnit.modify_shortCapacity (u : RectIx) (f : RectRec → RectRec) (r : RectUnit) : (r.modify u f).shortCapacity = r.shortCapacity := rfl
@[simp] theorem RectUnit.setStatus_duty (u : RectIx) (x : RectStatus) (r : RectUnit) : (r.setStatus u x).duty = r.duty := rfl
@[simp] theorem RectUnit.setStatus_out (u : RectIx) (x : RectStatus) (r : RectUnit) : (r.setStatus u x).out = r.out := rfl
@[simp] theorem RectUnit.setStatus_walkIn (u : RectIx) (x : RectStatus) (r : RectUnit) : (r.setStatus u x).walkIn = r.walkIn := rfl
@[simp] theorem RectUnit.setStatus_target (u : RectIx) (x : RectStatus) (r : RectUnit) : (r.setStatus u x).target = r.target := rfl
@[simp] theorem RectUnit.setStatus_sizing (u : RectIx) (x : RectStatus) (r : RectUnit) : (r.setStatus u x).sizing = r.sizing := rfl
@[simp] theorem RectUnit.setStatus_shed (u : RectIx) (x : RectStatus) (r : RectUnit) : (r.setStatus u x).shed = r.shed := rfl
@[simp] theorem RectUnit.setStatus_shedDue (u : RectIx) (x : RectStatus) (r : RectUnit) : (r.setStatus u x).shedDue = r.shedDue := rfl
@[simp] theorem RectUnit.setStatus_stagger (u : RectIx) (x : RectStatus) (r : RectUnit) : (r.setStatus u x).stagger = r.stagger := rfl
@[simp] theorem RectUnit.setStatus_refresh (u : RectIx) (x : RectStatus) (r : RectUnit) : (r.setStatus u x).refresh = r.refresh := rfl
@[simp] theorem RectUnit.setStatus_rotationCount (u : RectIx) (x : RectStatus) (r : RectUnit) : (r.setStatus u x).rotationCount = r.rotationCount := rfl
@[simp] theorem RectUnit.setStatus_rotationPending (u : RectIx) (x : RectStatus) (r : RectUnit) : (r.setStatus u x).rotationPending = r.rotationPending := rfl
@[simp] theorem RectUnit.setStatus_inFlight (u : RectIx) (x : RectStatus) (r : RectUnit) : (r.setStatus u x).inFlight = r.inFlight := rfl
@[simp] theorem RectUnit.setStatus_shortCapacity (u : RectIx) (x : RectStatus) (r : RectUnit) : (r.setStatus u x).shortCapacity = r.shortCapacity := rfl
@[simp] theorem RectUnit.unqueue_duty (u : RectIx) (r : RectUnit) : (r.unqueue u).duty = r.duty := rfl
@[simp] theorem RectUnit.unqueue_out (u : RectIx) (r : RectUnit) : (r.unqueue u).out = r.out := rfl
@[simp] theorem RectUnit.unqueue_walkIn (u : RectIx) (r : RectUnit) : (r.unqueue u).walkIn = r.walkIn.filter fun v => v != u := rfl
@[simp] theorem RectUnit.unqueue_target (u : RectIx) (r : RectUnit) : (r.unqueue u).target = r.target := rfl
@[simp] theorem RectUnit.unqueue_sizing (u : RectIx) (r : RectUnit) : (r.unqueue u).sizing = r.sizing := rfl
@[simp] theorem RectUnit.unqueue_shed (u : RectIx) (r : RectUnit) : (r.unqueue u).shed = r.shed := rfl
@[simp] theorem RectUnit.unqueue_shedDue (u : RectIx) (r : RectUnit) : (r.unqueue u).shedDue = r.shedDue := rfl
@[simp] theorem RectUnit.unqueue_refresh (u : RectIx) (r : RectUnit) : (r.unqueue u).refresh = r.refresh := rfl
@[simp] theorem RectUnit.unqueue_rotationCount (u : RectIx) (r : RectUnit) : (r.unqueue u).rotationCount = r.rotationCount := rfl
@[simp] theorem RectUnit.unqueue_rotationPending (u : RectIx) (r : RectUnit) : (r.unqueue u).rotationPending = r.rotationPending := rfl
@[simp] theorem RectUnit.unqueue_inFlight (u : RectIx) (r : RectUnit) : (r.unqueue u).inFlight = r.inFlight := rfl
@[simp] theorem RectUnit.unqueue_shortCapacity (u : RectIx) (r : RectUnit) : (r.unqueue u).shortCapacity = r.shortCapacity := rfl
@[simp] theorem RectUnit.modify_records (u : RectIx) (f : RectRec → RectRec) (r : RectUnit) :
    (r.modify u f).records = put r.records u (f r.records[u]) := rfl
@[simp] theorem RectUnit.unqueue_records (u : RectIx) (r : RectUnit) : (r.unqueue u).records = r.records := rfl

/-! ### Fixed-size collections -/

/-- Reading a collection after one entry was replaced. -/
@[simp] theorem put_get {α : Type} {n : Nat} (v : Vector α n) (i j : Fin n) (x : α) :
    (put v i x)[j] = if j = i then x else v[j] := by
  simp only [put, Fin.getElem_fin, Vector.getElem_set, Fin.ext_iff, eq_comm]

/-- The same with the index as a number. -/
@[simp] theorem put_get_val {α : Type} {n : Nat} (v : Vector α n) (i j : Fin n) (x : α) :
    (put v i x)[j.val] = if j = i then x else v[j.val] := put_get v i j x

/-- Every index is listed. -/
@[simp] theorem mem_indices {n : Nat} (i : Fin n) : i ∈ indices n := List.mem_finRange i

/-- No index is listed twice. -/
theorem indices_nodup (n : Nat) : (indices n).Nodup := List.nodup_finRange n

end Sys2Proof.Machine
end

