-- ==== Sys2Proof/Laws/Ops.lean ====
section
/-! SUPPORT. What each shared operation can do, said once: hand-ons, timers, the agenda, time, and the taking of a request. -/

namespace Sys2Proof.Machine

/-! ### Hand-ons -/

/-- A conditional hand-on changes the agenda alone. -/
theorem Plant.postIf_eq (c : Bool) (l : List Signal) (p : Plant) :
    p.postIf c l = { p with agenda := p.agenda ++ if c then l else [] } := by
  cases c <;> simp [Plant.postIf, Plant.post]

@[simp] theorem Plant.postIf_false (l : List Signal) (p : Plant) : p.postIf false l = p := rfl
@[simp] theorem Plant.postIf_true (l : List Signal) (p : Plant) : p.postIf true l = p.post l := rfl

/-- A property that reads no agenda passes through a hand-on. -/
theorem Plant.post_keeps {P : Plant → Prop} (h : ∀ p l, P p → P { p with agenda := l }) (p : Plant)
    (l : List Signal) (hp : P p) : P (p.post l) := h _ _ hp

/-- A property that reads no agenda passes through a conditional hand-on. -/
theorem Plant.postIf_keeps {P : Plant → Prop} (h : ∀ p l, P p → P { p with agenda := l }) (p : Plant)
    (c : Bool) (l : List Signal) (hp : P p) : P (p.postIf c l) := by
  rw [Plant.postIf_eq]; exact h _ _ hp

/-! ### Timers -/

@[simp] theorem Timer.isRunning_stopped : Timer.stopped.isRunning = false := rfl
@[simp] theorem Timer.isRunning_running (a b : Nat) : (Timer.running a b).isRunning = true := rfl
@[simp] theorem Timer.isRunning_relength (n : Nat) (t : Timer) : (t.relength n).isRunning = t.isRunning := by
  cases t <;> rfl
@[simp] theorem Timer.isRunning_while (now n : Nat) (c : Bool) (t : Timer) :
    (t.while now n c).isRunning = c := by
  cases c <;> cases t <;> rfl
@[simp] theorem Timer.isRunning_startIfStopped (now n : Nat) (t : Timer) :
    (t.startIfStopped now n).isRunning = true := by
  cases t <;> rfl

/-- Setting a timer leaves every record without timers, the queue, the outputs and the agenda. -/
theorem Plant.setTimer_frame (t : Timer) (id : TimerId) (p : Plant) :
    (p.setTimer t id).links = p.links ∧ (p.setTimer t id).queue = p.queue ∧
      (p.setTimer t id).strings = p.strings ∧ (p.setTimer t id).outputs = p.outputs ∧
      (p.setTimer t id).agenda = p.agenda := by
  cases id <;> exact ⟨rfl, rfl, rfl, rfl, rfl⟩

/-- A timer reads as it was set. -/
@[simp] theorem Plant.timer_setTimer (t : Timer) (id : TimerId) (p : Plant) :
    (p.setTimer t id).timer id = t := by
  cases id <;> simp [Plant.setTimer, Plant.timer]

/-- Measuring a timer sets it, and may hand on its expiry. -/
theorem Plant.remeasure_eq (e : Env) (id : TimerId) (n : Nat) (p : Plant) :
    p.remeasure e id n =
      (p.setTimer ((p.timer id).relength n) id).postIf (((p.timer id).relength n).isOver e.now)
        [.expired id] := rfl

/-! ### The agenda -/

/-- With nothing handed on, working off the agenda changes nothing. -/
@[simp] theorem Plant.settle_nil (e : Env) (n : Nat) (p : Plant) (h : p.agenda = []) :
    p.settle e n [] = p := by
  cases n with
  | zero => simp only [Plant.settle, h, List.append_nil]; rw [← h]
  | succ n => simp only [Plant.settle, h, List.append_nil]

/-- A property that reads no agenda and that every hand-on keeps is kept by working off the agenda. -/
theorem Plant.settle_keeps {P : Plant → Prop} (e : Env) (h : ∀ p l, P p → P { p with agenda := l })
    (step : ∀ s p, P p → P (p.handle e s)) :
    ∀ (n : Nat) (rest : List Signal) (p : Plant), P p → P (p.settle e n rest) := by
  intro n
  induction n with
  | zero => intro rest p hp; exact h _ _ hp
  | succ n ih =>
    intro rest p hp
    simp only [Plant.settle]
    split
    · exact hp
    · exact ih _ _ (step _ _ (h _ _ hp))

/-- What holds of a plant and the hand-ons that wait, and is kept by the taking of each, holds when the
agenda has been worked off, of what is left on it. -/
theorem Plant.settle_induct (e : Env) (I : Plant → List Signal → Prop)
    (step : ∀ (g : Signal) (more : List Signal) (p : Plant), p.agenda = [] → I p (g :: more) →
      I { p.handle e g with agenda := [] } ((p.handle e g).agenda ++ more)) :
    ∀ (n : Nat) (rest : List Signal) (p : Plant), I { p with agenda := [] } (p.agenda ++ rest) →
      I { p.settle e n rest with agenda := [] } (p.settle e n rest).agenda
  | 0, _, _, h => h
  | n + 1, rest, p, h => by
    unfold Plant.settle
    split
    · rename_i hnil
      rw [hnil] at h
      rwa [(List.append_eq_nil_iff.mp hnil).1]
    · rename_i g more heq
      rw [heq] at h
      exact settle_induct e I step n more _ (step g more _ rfl h)
/-- A property of the plant that no relay change touches, that reads no agenda and that every hand-on
keeps is kept by the end of a step. -/
theorem State.finish_keeps {P : Plant → Prop} (s : State) (h : ∀ p l, P p → P { p with agenda := l })
    (step : ∀ g p, P p → P (p.handle s.env g))
    (drive : ∀ p, P p → P (p.driveRelays s.env)) (hp : P s.plant) : P s.finish.plant :=
  drive _ (Plant.settle_keeps s.env h step _ _ _ hp)

/-- With nothing handed on, the end of a step works out the relays alone. -/
theorem State.finish_of_empty (s : State) (h : s.plant.agenda = []) :
    s.finish = { s with plant := s.plant.driveRelays s.env } := by
  simp only [State.finish, State.settle, State.onPlant, Plant.settle_nil _ _ _ h]

/-! ### Time -/

/-- No time passing changes nothing. -/
@[simp] theorem State.advance_zero (s : State) : s.advance 0 = s := by
  have h : s.plant.elapse s.env 0 = s.plant := by
    have hr : (s.plant.rect.records.map fun x => { x with carry := x.carry + if x.runs then 0 else 0 })
        = s.plant.rect.records := by
      ext i hi; simp
    simp only [Plant.elapse, ite_self, Nat.add_zero] at hr ⊢
    rw [hr]
  simp only [State.advance, h, Nat.add_zero]

/-- A time already reached moves nothing. -/
theorem State.bringTo_past (t : Nat) (s : State) (h : t ≤ s.env.clock.now) : s.bringTo t = s := by
  rw [State.bringTo, Nat.sub_eq_zero_of_le h, State.advance_zero]

/-- A timer that runs expires at its end, its block acts, and the step is finished; one that does not
run does nothing. -/
theorem State.expire_cases (id : TimerId) (s : State) :
    (s.plant.timer id = .stopped ∧ s.expire id = s) ∨
      ∃ a n, s.plant.timer id = .running a n ∧
        s.expire id = ((s.bringTo (a + n)).onPlant fun e p => p.fire e id).finish := by
  unfold State.expire
  split
  · exact .inl ⟨by assumption, rfl⟩
  · exact .inr ⟨_, _, by assumption, rfl⟩

/-- A count that runs ends after what is left of its interval; one that does not run does nothing. -/
theorem State.countEnds_cases (c : Bool) (k n : Nat) (act : Env → Plant → Plant) (s : State) :
    (c = false ∧ s.countEnds c k n act = s) ∨
      (c = true ∧ s.countEnds c k n act = ((s.advance (n - k)).onPlant act).finish) := by
  cases c <;> simp [State.countEnds]

/-- Bringing the clock forward keeps what no elapsed time changes. -/
theorem State.expire_frame (id : TimerId) (s : State) :
    (s.expire id).pending = s.pending ∧ (s.expire id).port = s.port ∧
      (s.expire id).request = s.request ∧ (s.expire id).store = s.store ∧
      (s.expire id).line = s.line ∧ (s.expire id).env.tables = s.env.tables ∧
      (s.expire id).env.mode = s.env.mode ∧ (s.expire id).env.inputs = s.env.inputs := by
  obtain ⟨-, h⟩ | ⟨a, n, -, h⟩ := s.expire_cases id <;> rw [h] <;> exact ⟨rfl, rfl, rfl, rfl, rfl, rfl, rfl, rfl⟩

/-- The end of a count keeps everything outside the plant and the clock. -/
theorem State.countEnds_frame (c : Bool) (k n : Nat) (act : Env → Plant → Plant) (s : State) :
    (s.countEnds c k n act).pending = s.pending ∧ (s.countEnds c k n act).port = s.port ∧
      (s.countEnds c k n act).request = s.request ∧ (s.countEnds c k n act).store = s.store ∧
      (s.countEnds c k n act).line = s.line ∧ (s.countEnds c k n act).env.tables = s.env.tables ∧
      (s.countEnds c k n act).env.mode = s.env.mode ∧
      (s.countEnds c k n act).env.inputs = s.env.inputs := by
  obtain ⟨-, h⟩ | ⟨-, h⟩ := s.countEnds_cases c k n act <;> rw [h] <;>
    exact ⟨rfl, rfl, rfl, rfl, rfl, rfl, rfl, rfl⟩

/-! ### Requests -/

/-- A request that the port takes is executed. -/
theorem State.takeRequest_taken (f : Frame) (code : Byte) (q : Req) (body : State → Done) (s : State)
    (h : s.port.state = .ready ∨ s.port.state = .receiving) (hq : isStation q.source = true) :
    s.takeRequest f code q body =
      ((s.bringTo q.time).onPort fun x => x.hear f.encode q.time).execute code q body := by
  rcases h with h | h <;> simp [State.takeRequest, h, hq]

/-- What a request does by the port's state. -/
theorem State.takeRequest_cases (f : Frame) (code : Byte) (q : Req) (body : State → Done) (s : State) :
    s.takeRequest f code q body =
        ((s.bringTo q.time).onPort fun x => x.hear f.encode q.time).execute code q body ∨
      ∃ g, s.takeRequest f code q body = (s.bringTo q.time).onPort g := by
  unfold State.takeRequest
  simp only [State.bringTo_port]
  split
  · split
    · exact .inl rfl
    · exact .inr ⟨_, rfl⟩
  · split
    · exact .inl rfl
    · exact .inr ⟨_, rfl⟩
  · exact .inr ⟨_, rfl⟩
  · exact .inr ⟨_, rfl⟩
  · exact .inr ⟨id, rfl⟩

/-- An execution holds the answer and finishes the step. -/
theorem State.execute_eq (code : Byte) (q : Req) (body : State → Done) (s : State) :
    s.execute code q body =
      ((body s.heard).state.onPort fun x => { x with
        state := .answerPending
        answer := some ⟨q.source, q.tag, code, (body s.heard).status, (body s.heard).content⟩ }).finish := rfl

/-- A request's taking restarts the silence timer. -/
theorem State.heard_request (s : State) :
    s.heard.request = { s.request with
      silence := silenceTimer s.env.clock.now s.env.tables.supervision.silenceTimeout, silent := false } := rfl

/-- A request's taking hands over the end of SUPERVISOR_SILENT. -/
theorem State.heard_plant (s : State) :
    s.heard.plant = (s.plant.post [.cond 25 false]).settle s.env agendaBound [] := by
  simp only [State.heard, State.settle_plant, State.post_plant, State.post_env, State.onRequest_plant,
    State.onRequest_env, State.restartSilence_plant, State.restartSilence_env]

/-! ### Collections of the bus engine -/

/-- The queue that takes an order never grows beyond 16. -/
theorem enqueueOrder_length (o : Order) (q : List Order) (h : q.length ≤ 16) :
    (enqueueOrder o q).length ≤ 16 := by
  unfold enqueueOrder
  split
  · simpa using h
  · split
    · simp; omega
    · rename_i _ hfull
      have : q.length = 16 := by omega
      unfold displace
      split
      · rename_i hany
        obtain ⟨x, hx, hp⟩ := List.any_eq_true.mp hany
        have := List.length_eraseP_of_mem (p := fun o : Order => o.body.isSetOutput) hx hp
        simp [this]; omega
      · simp; omega

/-- The queue that takes a notice never grows beyond 16. -/
theorem Alarms.enqueue_length (n : Notice) (a : Alarms) (h : a.notices.length ≤ 16) :
    (a.enqueue n).notices.length ≤ 16 := by
  unfold Alarms.enqueue
  split
  · simp; omega
  · simp only []
    split
    · rename_i hfull hlow
      have hne : a.notices ≠ [] := by
        intro h0; simp [h0] at hfull
      have key : ∀ l : List Notice, l ≠ [] → lowestSeverity l < 4 →
          ∃ x ∈ l, (x.severity.toNat == lowestSeverity l) = true := by
        intro l
        induction l with
        | nil => simp
        | cons x xs ih =>
          intro _ hl
          by_cases hx : x.severity.toNat ≤ lowestSeverity xs
          · exact ⟨x, by simp, by simp [lowestSeverity]; omega⟩
          · have h2 : lowestSeverity (x :: xs) = lowestSeverity xs := by simp [lowestSeverity]; omega
            rw [h2] at hl ⊢
            have : xs ≠ [] := by intro h0; subst h0; simp [lowestSeverity] at hl
            obtain ⟨y, hy, hp⟩ := ih this hl
            exact ⟨y, by simp [hy], hp⟩
      have hs : n.severity.toNat < 4 := by cases n.severity <;> decide
      obtain ⟨x, hx, hp⟩ := key a.notices hne (by omega)
      have := List.length_eraseP_of_mem (p := fun m : Notice => m.severity.toNat == lowestSeverity a.notices) hx hp
      simp [this]; omega
    · exact h

/-- The history never holds more than 64 entries. -/
theorem Alarms.record_length (t : Stamp) (i : Option PointIx) (e : HistoryEvent) (a : Alarms) :
    (a.record t i e).history.length ≤ 64 := by
  simp [Alarms.record]; omega

end Sys2Proof.Machine
end

