-- ==== Sys2Proof/Laws/Alarm.lean ====
section
/-! SUPPORT. What a condition handed to its point can do: the frame of the alarm unit's operations. -/

namespace Sys2Proof.Machine

/-! ### Conditions -/

/-- The entry to ACTIVE changes the alarm unit, and may hand on the abort of a test, alone. -/
theorem Plant.enterActive_frame (e : Env) (i : PointIx) (p : Plant) :
    ∃ a l, p.enterActive e i = { p with alarms := a, agenda := p.agenda ++ l } := by
  exact ⟨_, if e.critical i then [.testAbort .abortedAlarm] else [], by
    rw [Plant.enterActive, Plant.postIf_eq]; rfl⟩

/-- A recorded transition changes the alarm unit alone. -/
theorem Plant.recordTransition_frame (e : Env) (i : PointIx) (b : Bool) (p : Plant) :
    ∃ a, p.recordTransition e i b = { p with alarms := a } := by
  unfold Plant.recordTransition; split
  · exact ⟨_, rfl⟩
  · exact ⟨p.alarms, rfl⟩

/-- The capture's examination changes the alarm unit alone. -/
theorem Plant.examineCapture_frame (e : Env) (i : PointIx) (p : Plant) :
    ∃ a, p.examineCapture e i = { p with alarms := a } := by
  unfold Plant.examineCapture; split
  · exact ⟨_, rfl⟩
  · exact ⟨p.alarms, rfl⟩

/-- A raise changes the alarm unit, and may hand on the abort of a test, alone. -/
theorem Plant.raise_frame (e : Env) (i : PointIx) (p : Plant) :
    ∃ a l, p.raise e i = { p with alarms := a, agenda := p.agenda ++ l } := by
  unfold Plant.raise
  obtain ⟨a, l, h⟩ := (p.modifyPoint i fun x => { x with acked := false, raiseTime := some e.clock.site }).enterActive_frame e i
  simp only [h]
  obtain ⟨b, h2⟩ := Plant.recordTransition_frame e i true { (p.modifyPoint i fun x => { x with acked := false, raiseTime := some e.clock.site }) with alarms := a, agenda := p.agenda ++ l }
  simp only [Plant.modifyPoint_agenda] at *
  rw [h2]
  split
  · obtain ⟨c, h3⟩ := Plant.examineCapture_frame e i { (p.modifyPoint i fun x => { x with acked := false, raiseTime := some e.clock.site }) with alarms := b, agenda := p.agenda ++ l }
    exact ⟨c, l, h3⟩
  · exact ⟨b, l, rfl⟩

/-- A clear changes the alarm unit alone. -/
theorem Plant.clearPoint_frame (e : Env) (i : PointIx) (p : Plant) :
    ∃ a, p.clearPoint e i = { p with alarms := a } := by
  unfold Plant.clearPoint
  obtain ⟨a, h⟩ := Plant.recordTransition_frame e i false (p.modifyPoint i fun x => { x with state := .idle, delay := .stopped, raiseTime := none })
  exact ⟨a, h⟩

/-- The beginning of a clear changes the alarm unit alone. -/
theorem Plant.beginClear_frame (e : Env) (i : PointIx) (p : Plant) :
    ∃ a, p.beginClear e i = { p with alarms := a } := by
  unfold Plant.beginClear Plant.clearOutcome
  split
  · split
    · exact ⟨_, rfl⟩
    · exact p.clearPoint_frame e i
  · exact ⟨_, rfl⟩

/-- A condition handed to its point changes the alarm unit, and may hand on the abort of a test, alone. -/
theorem Plant.setCond_frame (e : Env) (i : PointIx) (b : Bool) (p : Plant) :
    ∃ a l, p.setCond e i b = { p with alarms := a, agenda := p.agenda ++ l } := by
  unfold Plant.setCond
  split
  · exact ⟨p.alarms, [], by simp⟩
  · generalize hq : p.modifyPoint i (fun x => { x with condition := b }) = q
    have key : ∀ r : Plant, (∃ a l, r = { q with alarms := a, agenda := q.agenda ++ l }) →
        ∃ a l, r = { p with alarms := a, agenda := p.agenda ++ l } := by
      rintro _ ⟨a, l, rfl⟩; subst hq; exact ⟨a, l, rfl⟩
    apply key
    simp only []
    split
    · split
      · exact Plant.raise_frame e i q
      · exact ⟨(q.modifyPoint i fun x => _).alarms, [], by rw [List.append_nil]; rfl⟩
    · exact ⟨(q.modifyPoint i fun x => _).alarms, [], by rw [List.append_nil]; rfl⟩
    · obtain ⟨a, h⟩ := Plant.beginClear_frame e i q
      exact ⟨a, [], by rw [h, List.append_nil]⟩
    · exact Plant.enterActive_frame e i q
    · exact Plant.enterActive_frame e i q
    · exact ⟨q.alarms, [], by simp⟩

/-- A condition that ends changes the alarm unit alone: nothing is handed on. -/
theorem Plant.setCond_false (e : Env) (i : PointIx) (p : Plant) :
    p.setCond e i false = { p with alarms := (p.setCond e i false).alarms } := by
  unfold Plant.setCond
  split
  · rfl
  · dsimp only
    generalize hm : (p.modifyPoint i fun x => { x with condition := false }) = m
    have h0 : m = { p with alarms := m.alarms } := by subst hm; rfl
    cases hs : m.alarms.points[i].state
    · exact h0
    · show (m.modifyPoint i fun x => { x with state := .idle, delay := .stopped }) = { p with alarms := (m.modifyPoint i fun x => { x with state := .idle, delay := .stopped }).alarms }
      generalize hy : (m.modifyPoint i fun x => { x with state := .idle, delay := .stopped }) = y
      have : y = { m with alarms := y.alarms } := by subst hy; rfl
      rw [this]; exact congrArg (fun z : Plant => { z with alarms := y.alarms }) h0
    · obtain ⟨a, h⟩ := m.beginClear_frame e i
      show (m.beginClear e i) = { p with alarms := (m.beginClear e i).alarms }
      rw [h]; exact congrArg (fun z : Plant => { z with alarms := a }) h0
    · exact h0
    · exact h0

/-! What a condition leaves, field by field. -/

@[simp] theorem Plant.setCond_links (e : Env) (i : PointIx) (b : Bool) (p : Plant) : (p.setCond e i b).links = p.links := by
  obtain ⟨a, l, h⟩ := p.setCond_frame e i b; rw [h]
@[simp] theorem Plant.setCond_queue (e : Env) (i : PointIx) (b : Bool) (p : Plant) : (p.setCond e i b).queue = p.queue := by
  obtain ⟨a, l, h⟩ := p.setCond_frame e i b; rw [h]
@[simp] theorem Plant.setCond_strings (e : Env) (i : PointIx) (b : Bool) (p : Plant) : (p.setCond e i b).strings = p.strings := by
  obtain ⟨a, l, h⟩ := p.setCond_frame e i b; rw [h]
@[simp] theorem Plant.setCond_battery (e : Env) (i : PointIx) (b : Bool) (p : Plant) : (p.setCond e i b).battery = p.battery := by
  obtain ⟨a, l, h⟩ := p.setCond_frame e i b; rw [h]
@[simp] theorem Plant.setCond_charge (e : Env) (i : PointIx) (b : Bool) (p : Plant) : (p.setCond e i b).charge = p.charge := by
  obtain ⟨a, l, h⟩ := p.setCond_frame e i b; rw [h]
@[simp] theorem Plant.setCond_test (e : Env) (i : PointIx) (b : Bool) (p : Plant) : (p.setCond e i b).test = p.test := by
  obtain ⟨a, l, h⟩ := p.setCond_frame e i b; rw [h]
@[simp] theorem Plant.setCond_ld (e : Env) (i : PointIx) (b : Bool) (p : Plant) : (p.setCond e i b).ld = p.ld := by
  obtain ⟨a, l, h⟩ := p.setCond_frame e i b; rw [h]
@[simp] theorem Plant.setCond_rect (e : Env) (i : PointIx) (b : Bool) (p : Plant) : (p.setCond e i b).rect = p.rect := by
  obtain ⟨a, l, h⟩ := p.setCond_frame e i b; rw [h]
@[simp] theorem Plant.setCond_gen (e : Env) (i : PointIx) (b : Bool) (p : Plant) : (p.setCond e i b).gen = p.gen := by
  obtain ⟨a, l, h⟩ := p.setCond_frame e i b; rw [h]
@[simp] theorem Plant.setCond_outputs (e : Env) (i : PointIx) (b : Bool) (p : Plant) : (p.setCond e i b).outputs = p.outputs := by
  obtain ⟨a, l, h⟩ := p.setCond_frame e i b; rw [h]

/-! ### Points -/

@[simp] theorem Alarms.enqueue_points (n : Notice) (a : Alarms) : (a.enqueue n).points = a.points := by
  unfold Alarms.enqueue; split
  · rfl
  · simp only []; split <;> rfl
@[simp] theorem Alarms.notify_points (n : Notice) (a : Alarms) : (a.notify n).points = a.points := by
  unfold Alarms.notify; split
  · rfl
  · exact a.enqueue_points n
@[simp] theorem Alarms.record_points (t : Stamp) (i : Option PointIx) (x : HistoryEvent) (a : Alarms) :
    (a.record t i x).points = a.points := by simp only [Alarms.record]
@[simp] theorem Plant.recordTransition_points (e : Env) (i : PointIx) (b : Bool) (p : Plant) :
    (p.recordTransition e i b).alarms.points = p.alarms.points := by
  have key : ∀ (c d : Bool) (n : Notice) (x : HistoryEvent),
      (let a := if c then p.alarms.notify n else p.alarms
       let a := if d then a else a.record e.stamp (some i) x
       ({ p with alarms := a } : Plant)).alarms.points = p.alarms.points := by
    intro c d n x; cases c <;> cases d <;> simp
  unfold Plant.recordTransition
  split
  · exact key _ _ _ _
  · rfl
@[simp] theorem Plant.examineCapture_points (e : Env) (i : PointIx) (p : Plant) :
    (p.examineCapture e i).alarms.points = p.alarms.points := by
  unfold Plant.examineCapture; split <;> rfl
/-- A condition handed to its point stands there. -/
theorem Plant.setCond_condition (e : Env) (i : PointIx) (b : Bool) (p : Plant) :
    (p.setCond e i b).alarms.points[i].condition = b := by
  unfold Plant.setCond
  split
  · rename_i h; simpa using h
  · generalize hq : p.modifyPoint i (fun x => { x with condition := b }) = q
    have h0 : q.alarms.points[i].condition = b := by subst hq; simp
    have ha : ∀ r : Plant, (r.enterActive e i).alarms.points[i].condition = r.alarms.points[i].condition := by
      intro r; rw [Plant.enterActive, Plant.postIf_eq]; simp
    simp only []
    split
    · split
      · unfold Plant.raise; simp only []; split <;> simp only [Plant.examineCapture_points, Plant.recordTransition_points, ha] <;> simpa using h0
      · simpa using h0
    · simpa using h0
    · unfold Plant.beginClear Plant.clearOutcome Plant.clearPoint
      split
      · split
        · simpa using h0
        · simp only [Plant.recordTransition_points]; simpa using h0
      · simpa using h0
    · rw [ha]; exact h0
    · rw [ha]; exact h0
    · exact h0
/-- A condition handed to its point leaves every other point. -/
theorem Plant.setCond_other (e : Env) (i j : PointIx) (b : Bool) (p : Plant) (h : j ≠ i) :
    (p.setCond e i b).alarms.points[j] = p.alarms.points[j] := by
  have hm : ∀ (r : Plant) f, (r.modifyPoint i f).alarms.points[j] = r.alarms.points[j] := by
    intro r f; simp only [Plant.modifyPoint_alarms_points]; simp [h]
  unfold Plant.setCond
  split
  · rfl
  · have ha : ∀ r : Plant, (r.enterActive e i).alarms.points[j] = r.alarms.points[j] := by
      intro r; rw [Plant.enterActive, Plant.postIf_eq]; exact hm r (fun x => { x with state := .active, delay := .stopped })
    simp only []
    split
    · split
      · unfold Plant.raise; simp only []; split <;> simp only [Plant.examineCapture_points, Plant.recordTransition_points, ha, hm]
      · simp only [hm]
    · simp only [hm]
    · unfold Plant.beginClear Plant.clearOutcome Plant.clearPoint
      split
      · split
        · simp only [hm]
        · simp only [Plant.recordTransition_points, hm]
      · simp only [hm]
    · rw [ha, hm]
    · rw [ha, hm]
    · rw [hm]

/-! ### Arithmetic -/

/-- A quotient by anything but zero is the truncated one. -/

@[simp] theorem quotient_pos (a b : Nat) (h : b ≠ 0) : quotient a b = a / b := if_neg h

end Sys2Proof.Machine
end

