-- ==== Sys2Proof/Laws/Rectifiers.lean ====
section
/-! SUPPORT. What the offer of an order and the changes of the rectifiers' collections can do. -/

namespace Sys2Proof.Machine

/-! ### Offers -/

/-- An offered order changes the queue, and may hand on, alone. -/
theorem Plant.offer_frame (o : Order) (p : Plant) :
    ∃ q l, p.offer o = { p with queue := q, agenda := p.agenda ++ l } := by
  unfold Plant.offer
  split
  · exact ⟨p.queue, _, rfl⟩
  · exact ⟨p.queue, _, rfl⟩
  · exact ⟨enqueueOrder o p.queue, _, by rw [Plant.setQueue, Plant.postIf_eq]⟩

/-- An offered SET_STATE changes the queue, and may hand on, alone. -/
theorem Plant.offerState_frame (e : Env) (u : RectIx) (a : Bool) (p : Plant) :
    ∃ q l, p.offerState e u a = { p with queue := q, agenda := p.agenda ++ l } := by
  unfold Plant.offerState
  split
  · split
    · exact p.offer_frame _
    · exact ⟨p.queue, [], by simp⟩
  · exact ⟨p.queue, [], by simp⟩

/-- An offered ENGINE order changes the queue, and may hand on, alone. -/
theorem Plant.offerEngine_frame (e : Env) (a : EngineAction) (p : Plant) :
    ∃ q l, p.offerEngine e a = { p with queue := q, agenda := p.agenda ++ l } := by
  unfold Plant.offerEngine
  split
  · exact ⟨p.queue, [], by simp⟩
  · split
    · exact p.offer_frame _
    · exact ⟨p.queue, [], by simp⟩

@[simp] theorem Plant.offer_links (o : Order) (p : Plant) : (p.offer o).links = p.links := by
  obtain ⟨q, l, h⟩ := p.offer_frame o; rw [h]
@[simp] theorem Plant.offer_strings (o : Order) (p : Plant) : (p.offer o).strings = p.strings := by
  obtain ⟨q, l, h⟩ := p.offer_frame o; rw [h]
@[simp] theorem Plant.offer_battery (o : Order) (p : Plant) : (p.offer o).battery = p.battery := by
  obtain ⟨q, l, h⟩ := p.offer_frame o; rw [h]
@[simp] theorem Plant.offer_charge (o : Order) (p : Plant) : (p.offer o).charge = p.charge := by
  obtain ⟨q, l, h⟩ := p.offer_frame o; rw [h]
@[simp] theorem Plant.offer_test (o : Order) (p : Plant) : (p.offer o).test = p.test := by
  obtain ⟨q, l, h⟩ := p.offer_frame o; rw [h]
@[simp] theorem Plant.offer_ld (o : Order) (p : Plant) : (p.offer o).ld = p.ld := by
  obtain ⟨q, l, h⟩ := p.offer_frame o; rw [h]
@[simp] theorem Plant.offer_rect (o : Order) (p : Plant) : (p.offer o).rect = p.rect := by
  obtain ⟨q, l, h⟩ := p.offer_frame o; rw [h]
@[simp] theorem Plant.offer_gen (o : Order) (p : Plant) : (p.offer o).gen = p.gen := by
  obtain ⟨q, l, h⟩ := p.offer_frame o; rw [h]
@[simp] theorem Plant.offer_alarms (o : Order) (p : Plant) : (p.offer o).alarms = p.alarms := by
  obtain ⟨q, l, h⟩ := p.offer_frame o; rw [h]
@[simp] theorem Plant.offer_outputs (o : Order) (p : Plant) : (p.offer o).outputs = p.outputs := by
  obtain ⟨q, l, h⟩ := p.offer_frame o; rw [h]

@[simp] theorem Plant.offerState_links (e : Env) (u : RectIx) (a : Bool) (p : Plant) : (p.offerState e u a).links = p.links := by
  obtain ⟨q, l, h⟩ := p.offerState_frame e u a; rw [h]
@[simp] theorem Plant.offerState_strings (e : Env) (u : RectIx) (a : Bool) (p : Plant) : (p.offerState e u a).strings = p.strings := by
  obtain ⟨q, l, h⟩ := p.offerState_frame e u a; rw [h]
@[simp] theorem Plant.offerState_battery (e : Env) (u : RectIx) (a : Bool) (p : Plant) : (p.offerState e u a).battery = p.battery := by
  obtain ⟨q, l, h⟩ := p.offerState_frame e u a; rw [h]
@[simp] theorem Plant.offerState_charge (e : Env) (u : RectIx) (a : Bool) (p : Plant) : (p.offerState e u a).charge = p.charge := by
  obtain ⟨q, l, h⟩ := p.offerState_frame e u a; rw [h]
@[simp] theorem Plant.offerState_test (e : Env) (u : RectIx) (a : Bool) (p : Plant) : (p.offerState e u a).test = p.test := by
  obtain ⟨q, l, h⟩ := p.offerState_frame e u a; rw [h]
@[simp] theorem Plant.offerState_ld (e : Env) (u : RectIx) (a : Bool) (p : Plant) : (p.offerState e u a).ld = p.ld := by
  obtain ⟨q, l, h⟩ := p.offerState_frame e u a; rw [h]
@[simp] theorem Plant.offerState_rect (e : Env) (u : RectIx) (a : Bool) (p : Plant) : (p.offerState e u a).rect = p.rect := by
  obtain ⟨q, l, h⟩ := p.offerState_frame e u a; rw [h]
@[simp] theorem Plant.offerState_gen (e : Env) (u : RectIx) (a : Bool) (p : Plant) : (p.offerState e u a).gen = p.gen := by
  obtain ⟨q, l, h⟩ := p.offerState_frame e u a; rw [h]
@[simp] theorem Plant.offerState_alarms (e : Env) (u : RectIx) (a : Bool) (p : Plant) : (p.offerState e u a).alarms = p.alarms := by
  obtain ⟨q, l, h⟩ := p.offerState_frame e u a; rw [h]
@[simp] theorem Plant.offerState_outputs (e : Env) (u : RectIx) (a : Bool) (p : Plant) : (p.offerState e u a).outputs = p.outputs := by
  obtain ⟨q, l, h⟩ := p.offerState_frame e u a; rw [h]

@[simp] theorem Plant.offerEngine_links (e : Env) (a : EngineAction) (p : Plant) : (p.offerEngine e a).links = p.links := by
  obtain ⟨q, l, h⟩ := p.offerEngine_frame e a; rw [h]
@[simp] theorem Plant.offerEngine_strings (e : Env) (a : EngineAction) (p : Plant) : (p.offerEngine e a).strings = p.strings := by
  obtain ⟨q, l, h⟩ := p.offerEngine_frame e a; rw [h]
@[simp] theorem Plant.offerEngine_battery (e : Env) (a : EngineAction) (p : Plant) : (p.offerEngine e a).battery = p.battery := by
  obtain ⟨q, l, h⟩ := p.offerEngine_frame e a; rw [h]
@[simp] theorem Plant.offerEngine_charge (e : Env) (a : EngineAction) (p : Plant) : (p.offerEngine e a).charge = p.charge := by
  obtain ⟨q, l, h⟩ := p.offerEngine_frame e a; rw [h]
@[simp] theorem Plant.offerEngine_test (e : Env) (a : EngineAction) (p : Plant) : (p.offerEngine e a).test = p.test := by
  obtain ⟨q, l, h⟩ := p.offerEngine_frame e a; rw [h]
@[simp] theorem Plant.offerEngine_ld (e : Env) (a : EngineAction) (p : Plant) : (p.offerEngine e a).ld = p.ld := by
  obtain ⟨q, l, h⟩ := p.offerEngine_frame e a; rw [h]
@[simp] theorem Plant.offerEngine_rect (e : Env) (a : EngineAction) (p : Plant) : (p.offerEngine e a).rect = p.rect := by
  obtain ⟨q, l, h⟩ := p.offerEngine_frame e a; rw [h]
@[simp] theorem Plant.offerEngine_gen (e : Env) (a : EngineAction) (p : Plant) : (p.offerEngine e a).gen = p.gen := by
  obtain ⟨q, l, h⟩ := p.offerEngine_frame e a; rw [h]
@[simp] theorem Plant.offerEngine_alarms (e : Env) (a : EngineAction) (p : Plant) : (p.offerEngine e a).alarms = p.alarms := by
  obtain ⟨q, l, h⟩ := p.offerEngine_frame e a; rw [h]
@[simp] theorem Plant.offerEngine_outputs (e : Env) (a : EngineAction) (p : Plant) : (p.offerEngine e a).outputs = p.outputs := by
  obtain ⟨q, l, h⟩ := p.offerEngine_frame e a; rw [h]

/-! ### A change of every record -/

/-- A record replaced by itself changes nothing. -/
theorem RectUnit.modify_self (u : RectIx) (f : RectRec → RectRec) (r : RectUnit)
    (h : f r.records[u] = r.records[u]) : r.modify u f = r := by
  have : put r.records u r.records[u] = r.records := by
    apply Vector.ext; intro j hj
    have hg : (put r.records u r.records[u])[(⟨j, hj⟩ : RectIx)] = r.records[(⟨j, hj⟩ : RectIx)] := by
      rw [put_get]; split
      · rename_i hu; subst hu; rfl
      · rfl
    exact hg
  simp only [RectUnit.modify, h, this]

/-- Records changed one by one: each one of the list is changed from what it was, and nothing else is. -/
theorem foldl_modify (g : RectRec → RectRec) : ∀ (l : List RectIx) (r : RectUnit), l.Nodup →
    ∃ v, l.foldl (fun r u => r.modify u g) r = { r with records := v } ∧
      ∀ u : RectIx, v[u] = if u ∈ l then g r.records[u] else r.records[u]
  | [], r, _ => ⟨r.records, rfl, fun _ => rfl⟩
  | x :: l, r, h => by
    obtain ⟨hx, hl⟩ := List.nodup_cons.mp h
    obtain ⟨v, hv, hu⟩ := foldl_modify g l (r.modify x g) hl
    refine ⟨v, hv, fun u => ?_⟩
    rw [hu u]
    simp only [RectUnit.modify_records, put_get, List.mem_cons]
    by_cases hxu : u = x
    · subst hxu; simp [hx]
    · simp [hxu]

end Sys2Proof.Machine
end

