-- ==== Sys2Proof/Tests/Slice0.lean ====
section
/-! SUPPORT. The model's own tests: terms that the well-formedness checks refuse, the spec's worked examples,
and for every statement with hypotheses a state and operands that meet them. -/

namespace Sys2Proof.Tests

set_option Elab.async false

open Sys2Proof.Machine

/-! ### States and operands -/

/-- A request of source 1 under tag 7 whose frame ends at 2,000 ms. -/
def req (params : List Byte) : Req := ⟨2000, 1, 7, params⟩

/-- The state after reset with the port READY. -/
def ready : State := { State.reset with port := { State.reset.port with state := .ready } }

/-- A state with its plant changed. -/
def inPlant (f : Plant → Plant) (s : State) : State := { s with plant := f s.plant }

/-- A state with its charge controller changed. -/
def inCharge (f : Charge → Charge) : State → State := inPlant fun p => { p with charge := f p.charge }

/-- A state with its rectifier duty unit changed. -/
def inRect (f : RectUnit → RectUnit) : State → State := inPlant fun p => { p with rect := f p.rect }

/-- A state with its generator run unit changed. -/
def inGen (f : GenUnit → GenUnit) : State → State := inPlant fun p => { p with gen := f p.gen }

/-- A state with its request unit changed. -/
def inRequest (f : RequestUnit → RequestUnit) (s : State) : State := { s with request := f s.request }

/-- A state with its tables changed. -/
def inTables (f : Tables → Tables) (s : State) : State :=
  { s with env := { s.env with tables := f s.env.tables } }

/-- A state with its line side changed. -/
def inLine (f : Line → Line) (s : State) : State := { s with line := f s.line }

/-- The READY state in FLOAT. -/
def floating : State := inCharge (fun c => { c with state := .float }) ready

/-- A frame as the receiver hears it, from 1,000 to 1,004 ms. -/
def heard (f : Frame) : RxFrame := ⟨f.encode, false, 1000, 1004⟩

/-- A rectifier's REPORT: 53.52 V, 20.0 A of 50.0 A, 25.0 degrees, ac_ok, healthy. -/
def rectReport : RectReport := ⟨53520, 200, 500, 250, true, true, false, 0⟩

/-! ### Terms that the well-formedness checks refuse -/

theorem test_wf_discard_refuses_a_request :
    (Instr.discardFrame (heard ⟨0, 1, kindRequest, 7, [1]⟩)).wf = false := by decide +kernel
theorem test_wf_discard_refuses_late_begin : (Instr.discardFrame ⟨[], false, 5, 4⟩).wf = false := by
  decide +kernel
theorem test_wf_intruding_refuses_late_begin : (Instr.intrudingFrame ⟨[], false, 5, 4⟩).wf = false := by
  decide +kernel
theorem test_wf_bus_frame_refuses_late_begin : (Instr.discardBusFrame ⟨[], false, 5, 4⟩).wf = false := by
  decide +kernel
theorem test_wf_unknown_refuses_known_codes :
    (Instr.unknownRequest (req [1])).wf = false ∧ (Instr.unknownRequest (req [7, 1])).wf = false ∧
      (Instr.unknownRequest ⟨0, 32, 0, [99]⟩).wf = false ∧
      (Instr.unknownRequest (req [99])).wf = true := by decide +kernel
theorem test_wf_refuses_sources_and_lengths :
    (Instr.status ⟨0, 32, 0, []⟩).wf = false ∧ (Instr.collect ⟨0, 255, 0, []⟩).wf = false ∧
      (Instr.cursor (req (List.replicate 64 0))).wf = false ∧
      (Instr.writeEntries (req (List.replicate 64 0))).wf = false ∧
      (Instr.readEntries ⟨0, 32, 0, []⟩).wf = false ∧ (Instr.relay ⟨0, 128, 0, []⟩).wf = false ∧
      (Instr.result ⟨0, 40, 0, []⟩).wf = false := by decide +kernel
theorem test_wf_refuses_other_kinds_and_subcodes :
    ([.readRecordRectifier, .readRecordString, .readRecordGenset, .readRecordGenRun, .readRecordPlant,
      .readRecordStation, .readRecordMirror, .readRecordAlarmPoint, .readRecordCapture,
      .readRecordHistory, .readRecordTestResult, .forceBoost, .startEqualize, .startTest, .stopTest,
      .resyncFull, .genStart, .genStop, .genReset, .rectLockout, .rectRestore, .rotateNow, .modeManual,
      .modeAuto, .ack, .releaseCapture, .setTime, .saveTables, .lockProfile,
      .restart] : List (Req → Instr)).all
      (fun c => !(c (req [0x20])).wf && !(c (req [])).wf) = true := by decide +kernel
theorem test_wf_save_refuses_damage_past_the_image :
    (Instr.saveComplete 0 (List.replicate (imageLength + 1) 0)).wf = false := by decide +kernel
theorem test_wf_replies_refuse_other_kinds :
    (Instr.reportReceived (heard ⟨0, 1, kindConfirm, 0, []⟩)).wf = false ∧
      (Instr.confirmReceived (heard ⟨0, 1, kindDecline, 0, []⟩)).wf = false ∧
      (Instr.declineReceived (heard ⟨0, 1, kindReport, 0, []⟩)).wf = false := by decide +kernel

/-! ### Worked examples -/

/-- 01 R4: the reference value of the check. -/
theorem test_check_reference :
    crc16 [0x31, 0x32, 0x33, 0x34, 0x35, 0x36, 0x37, 0x38, 0x39] = 0x29B1 := by decide +kernel

/-- 03 R56, R61: State.reset is what a POWER_ON reset leaves at time 0. -/
theorem test_reset_is_a_power_on_reset : State.reset.resetBy .powerOn = State.reset := by decide +kernel

set_option maxRecDepth 100000 in
/-- 03 R54: the image of the default tables has the length of all entries and two check bytes. -/
theorem test_default_image : Tables.default.image.length = imageLength := by decide +kernel

set_option maxRecDepth 100000 in
/-- 03 R56: it loads as the default tables. -/
theorem test_default_image_loads : loadImage Tables.default.image = some .default := by decide +kernel

/-- The setpoint of a plant state at a compensation temperature, under the default profile. -/
def setpointAt (x : PlantState) (t trim : Int) (isOver : Bool) : Int × Nat :=
  let c := { State.reset.plant.charge with state := x, trim := trim, overTemp := isOver }.setpointFrom .default t
  (c.base, c.setpoint)

/-- 05, 5.5, worked example: setpoints under the default profile. -/
theorem test_setpoints :
    setpointAt .float 352 0 false = (52786, 52786) ∧ setpointAt .float 352 (-300) false = (52786, 52486) ∧
      setpointAt .boost 352 0 false = (55666, 55666) ∧ setpointAt .equalize 352 0 false = (56866, 56866) ∧
      setpointAt .float (-50) 0 false = (55320, 55320) ∧
      setpointAt .equalize 0 0 false = (59400, 57600) ∧ setpointAt .float 300 0 true = (52080, 52080) ∧
      setpointAt .test 352 0 false = (46800, 46800) ∧ setpointAt .startUp 300 0 false = (53160, 53160) := by
  decide +kernel

/-- 05, 5.5: the truncation and the rounding of the two further cases. -/
theorem test_setpoint_rounding :
    ({ State.reset.plant.charge with state := .float }.setpointFrom
      { Profile.default with k := -2345 } 257).setpoint = 53481 ∧
    ({ State.reset.plant.charge with state := .float }.setpointFrom
      { Profile.default with cells := 12, k := -1750, busMin := 24000, busMax := 28800 } 255).setpoint
        = 26750 := by decide +kernel

/-- 04 R70 to R72, worked example: four reports. -/
def string0 : StringRec :=
  { StringRec.absent with
    status := .reporting, shortfall := 50000, residue := 0, estimated := false, tPrev := some 100000 }

/-- The example's reports in turn: time and current. -/
def integrated : List (Nat × Int) → StringRec
  | [] => string0
  | (t, i) :: earlier => (integrated earlier).balance State.reset.env 0 i t

theorem test_four_reports :
    [[(102000, -425)], [(104000, -425), (102000, -425)],
      [(106000, 300), (104000, -425), (102000, -425)],
      [(115000, 300), (106000, 300), (104000, -425), (102000, -425)]].map
        (fun rs => ((integrated rs).shortfall, (integrated rs).residue, (integrated rs).estimated)) =
      [(50023, -22000, false), (50047, -8000, false), (50032, 4000, false), (49994, 16000, true)] ∧
    State.reset.env.soc 0 50032 = 74 ∧ State.reset.env.soc 0 49994 = 75 := by decide +kernel

/-- 04 R72, worked example: the clamp at full charge. -/
theorem test_full_clamp :
    integrate (State.reset.env.dRange 0) (chargeOf 400 2000 92) (-5990) 20000 = (-6000, 0) := by
  decide +kernel

/-- 05 R111, worked example: the trim loop in BOOST with I_lim 400. -/
theorem test_trim_loop :
    [455, 430, 405, 390, 352, 340].map (fun i => trimAfter .default 400 i 0) =
      [-100, -100, -100, 0, 0, 0] ∧
    trimAfter .default 400 430 (-100) = -200 ∧ trimAfter .default 400 405 (-200) = -300 ∧
    trimAfter .default 400 390 (-300) = -300 ∧ trimAfter .default 400 352 (-300) = -280 ∧
    trimAfter .default 400 340 (-280) = -260 := by decide +kernel

/-- 08 R175, worked example: the allowance of an 8 kW set. -/
theorem test_allowance :
    GensetTable.default.allowanceAt .onLoad 53520 = some 1076 ∧
    GensetTable.default.allowanceAt .onLoad 56400 = some 1021 ∧
    GensetTable.default.allowanceAt .onLoad 55666 = some 1034 ∧
    GensetTable.default.allowanceAt .cooldown 55666 = some 103 ∧
    GensetTable.default.allowanceAt .cooldown 56400 = some 102 ∧
    GensetTable.default.allowanceAt .warmup 56400 = none := by decide +kernel

/-- 07 R143, worked example: raising and shedding four rectifiers of 500 dA. -/
theorem test_sizing :
    (sizeByLoad .default 500 900 3 4 false).target = 4 ∧
    sizeByLoad .default 500 900 4 4 false = ⟨4, false, 4, false⟩ ∧
    sizeByLoad .default 500 400 4 4 false = ⟨4, false, 3, true⟩ ∧
    (sizeByLoad .default 500 400 4 4 true).target = 3 ∧
    sizeByLoad .default 500 400 3 4 false = ⟨3, false, 3, false⟩ := by decide +kernel

/-- 02 R28, example: a pass of the cycle count polls 5, 6 and 20 by class. -/
def pollTables : Tables :=
  { Tables.default with
    stationMap := ((Tables.default.stationMap.set 5 ⟨.foreign, 0, .pass, false⟩).set 6
      ⟨.foreign, 0, .pass, false⟩).set 20 ⟨.foreign, 0, .pass, false⟩
    pollList := ((Tables.default.pollList.set 0 ⟨5, .every⟩).set 1 ⟨6, .alternate⟩).set 2 ⟨20, .slow⟩ }

/-- The stations polled in turn from a position and cycle count. -/
def polls : Nat → Nat → Nat → List Nat
  | 0, _, _ => []
  | n + 1, pos, cycle =>
    match State.reset.plant.searchPoll { State.reset.env with tables := pollTables } 192 pos cycle with
    | some (st, pos, cycle) => st.val :: polls n pos cycle
    | none => []

theorem test_poll_cycles : polls 13 0 0 = [5, 6, 20, 5, 5, 6, 5, 5, 6, 5, 5, 6, 5] := by decide +kernel

/-- A notice of a point and severity. -/
def notice (i : PointIx) (sev : Severity) : Notice := ⟨i, .raise, sev, ⟨0, false⟩, none, .float⟩

/-- 10 R192, worked example: COLLECT takes 2 (CRITICAL), 5 and 4 (MAJOR), then 16, and leaves 19. -/
theorem test_collect_order :
    (collectNotices 4 [notice 5 .major, notice 4 .major, notice 16 .warning, notice 2 .critical,
      notice 19 .warning]).1.map (·.point.val) = [2, 5, 4, 16] := by decide +kernel

/-- 2 MAJOR, 10 MINOR and 4 WARNING notices. -/
def sixteen : List Notice :=
  [notice 0 .major, notice 1 .major] ++ ((indices 40).drop 6 |>.take 10).map (notice · .minor) ++
    ((indices 40).drop 20 |>.take 4).map (notice · .warning)

/-- An alarm unit with a full notice queue. -/
def full : Alarms := { State.reset.plant.alarms with notices := sixteen, overflow := false }

/-- 10 R191, R192, example: a MAJOR notice discards the oldest WARNING, a WARNING one is dropped. -/
theorem test_full_queue :
    (full.notify (notice 38 .major)).notices.map (·.point.val) =
      [0, 1, 6, 7, 8, 9, 10, 11, 12, 13, 14, 15, 21, 22, 23, 38] ∧
    (full.notify (notice 25 .warning)).notices = sixteen ∧
    (full.notify (notice 25 .warning)).overflow = true ∧
    (full.notify { notice 20 .warning with kind := .clear }).overflow = false := by decide +kernel

/-- 02 R32: a SET_OUTPUT offered to a queue of sixteen displaces the oldest SET_OUTPUT. -/
def sixteenOrders : List Order :=
  (⟨1, .setState true, 0, .rect 0⟩ : Order) ::
    ((indices 32).drop 1 |>.take 15).map fun st => ⟨st, .setOutput 53520 500, 0, .gen⟩

theorem test_queue_displaces :
    (enqueueOrder ⟨20, .setOutput 53520 500, 0, .gen⟩ sixteenOrders).map (·.station.val) =
      [1, 2, 3, 4, 5, 6, 7, 8, 9, 10, 11, 12, 13, 14, 15, 20] := by decide +kernel

/-- 09 R179: a level is accepted at the third sample in a row that shows it. -/
theorem test_filter :
    let i : Input := ⟨false, 3, false, 3, none, 20⟩
    let x : InputEntry := State.reset.env.tables.inputs[0]
    let s (b : Bool) (i : Input) : Input := i.sample 20 ⟨0, false⟩ x b
    (s true (s true i)).accepted = false ∧ (s true (s true (s true i))).accepted = true ∧
      (s true (s true (s false (s true i)))).accepted = false := by decide +kernel

/-- No row gives bits: no word spells a command, and withFetchWord changes nothing. -/
theorem test_no_word_spells_a_command : decodeTableWord 8 1 = none ∧
    (ready.withFetchWord 8 1) = ready := by decide +kernel

/-! ### Witnesses: a state and operands that meet the hypotheses of each statement -/

/-- READY with a port state and answer. -/
def portAt (st : PortState) (a : Option Answer) : State :=
  { ready with port := { ready.port with state := st, answer := a } }

/-- READY while a save is under way. -/
def saving : State := { ready with store := ⟨.saving, Tables.default.image⟩ }

/-- READY under the profile lock, with the cursor on PROFILE. -/
def locked : State := inRequest (fun r => { r with lock := true, cursor := ⟨.profile, 0⟩ }) ready

/-- READY with the cursor at an entry. -/
def cursorAt (id : TableId) (i : Nat) : State := inRequest (fun r => { r with cursor := ⟨id, i⟩ }) ready

/-- READY in a mode. -/
def modeAt (m : Mode) (s : State) : State := { s with env := { s.env with mode := m } }

/-- READY in a plant state. -/
def plantAt (x : PlantState) : State := inCharge (fun c => { c with state := x }) ready

theorem witness_StepTakesTheFrontCommand :
    ({ ready with pending := [.collect (req []), .busArbiterChoice] } : State).pending =
      .collect (req []) :: [.busArbiterChoice] := rfl

theorem witness_EmptyQueueLetsOneMillisecondPass : ready.pending = [] := rfl

theorem witness_RegistersChangeByTheirOwnCommandsAlone :
    ∃ t, exec .silenceWaitEnd ready = .next t ∧ (∀ q, Instr.silenceWaitEnd ≠ .writeEntries q) ∧
      isCold .silenceWaitEnd = false ∧
      (∀ q, Instr.silenceWaitEnd ≠ .modeManual q ∧ Instr.silenceWaitEnd ≠ .modeAuto q) ∧
      Instr.silenceWaitEnd ≠ .silenceTimerExpiry ∧ isReset .silenceWaitEnd = false ∧
      (∀ q, Instr.silenceWaitEnd ≠ .setTime q) ∧ Instr.silenceWaitEnd ≠ .siteTimeAdvance ∧
      (∀ q, Instr.silenceWaitEnd ≠ .saveTables q) ∧
      (∀ a d, Instr.silenceWaitEnd ≠ .saveComplete a d) :=
  ⟨_, rfl, nofun, rfl, fun _ => ⟨nofun, nofun⟩, nofun, rfl, nofun, nofun, nofun, nofun⟩

theorem witness_ProfileLockHolds :
    (∃ t, exec .silenceWaitEnd locked = .next t ∧ locked.request.lock = true ∧
      isCold .silenceWaitEnd = false) ∧
    (∃ t, exec .silenceWaitEnd ready = .next t ∧ (∀ q, Instr.silenceWaitEnd ≠ .lockProfile q) ∧
      ready.request.lock = false) ∧
    (∃ t, exec (.powerOn 5) locked = .next t ∧ isCold (.powerOn 5) = true) ∧
    (ready.takes (req [0x12]) ∧ ready.store.state ≠ .saving) ∧
    (saving.takes (req [0x12]) ∧ saving.store.state = .saving) ∧
    (locked.takes (req (1 :: List.replicate 41 0)) ∧ locked.request.cursor.table = .profile ∧
      locked.store.state ≠ .saving ∧ locked.request.cursor.index + (1 : Byte).toNat ≤ 1 ∧
      (List.replicate 41 (0 : Byte)).length = (1 : Byte).toNat * 41 ∧ TableId.profile.entrySize = 41) ∧
    (locked.takes (req [1]) ∧ locked.request.cursor = ⟨.profile, 0⟩) :=
  ⟨⟨_, rfl, by decide +kernel⟩, ⟨_, rfl, nofun, rfl⟩, ⟨_, rfl, rfl⟩, by decide +kernel⟩

theorem witness_ResetCausesAreKeptUntilStatus :
    (∃ t, exec (.powerOn 0) ready = .next t) ∧ (∃ t, exec (.supplyLow 0) ready = .next t) ∧
    (∃ t, exec (.resetPin 0) ready = .next t) ∧
    (∃ s t, exec .restartReset s = .next t ∧ s.request.restartDue = true) ∧
    ready.takes (req []) ∧ (req []).params = [] ∧
    (∃ t, exec .silenceWaitEnd ready = .next t ∧ (∀ q, Instr.silenceWaitEnd ≠ .status q) ∧
      isReset .silenceWaitEnd = false) :=
  ⟨⟨_, rfl⟩, ⟨_, rfl⟩, ⟨_, rfl⟩, ⟨inRequest (fun r => { r with restartDue := true }) ready, _, rfl, rfl⟩,
    by decide +kernel, rfl, _, rfl, nofun, rfl⟩

theorem witness_ReportsReadFieldByField :
    (4294967295 < 4294967296 ∧ 65535 < 65536 ∧ 0 < 1 ∧ -32768 ≤ (-32768 : Int) ∧
      (32767 : Int) < 32768 ∧ 255 < 256) ∧
    ([0, 0] : List Byte).length ≠ 12 ∧ (List.replicate 6 (1 : Byte)).length = 6 ∧
    (List.replicate 4 (1 : Byte)).length = 4 ∧
    ((List.replicate 24 65535).length ≤ 24 ∧ ∀ b ∈ List.replicate 24 65535, b < 65536) ∧
    ((List.replicate 9 (0 : Byte)).length = 9 ∧ 24 < (25 : Byte).toNat ∧
      ([0] : List Byte).length ≠ 2 * (1 : Byte).toNat) ∧
    (List.replicate 9 (0 : Byte)).length < 10 ∧ 3 < (4 : Byte).toNat ∧
    ([1] : List Byte).length ≠ 8 := by decide +kernel

theorem witness_UntakenCharactersAtThePort :
    (ready.port.state = .ready ∧ accepted (heard ⟨0, 1, 0x10, 0, []⟩) = false) ∧
    ((portAt .receiving none).port.state = .receiving ∧ accepted ⟨[0xC3], true, 1, 1⟩ = false) ∧
    (portAt .answerPending none).port.state = .answerPending ∧
    State.reset.port.state = .silenceWait := by decide +kernel

/-- An answer with content of a length. -/
def answerOf (n : Nat) : Answer := ⟨1, 7, 0x01, .ok, List.replicate n 0⟩

theorem witness_TheAnswerIsSent :
    (∃ s a, s = portAt .answerPending (some a) ∧ s.port.state = .answerPending ∧
      s.port.answer = some a ∧ a.content.length = 62) ∧
    (∃ s a, s = portAt .answerPending (some a) ∧ s.port.state = .answerPending ∧
      s.port.answer = some a ∧ a.content.length = 0) ∧
    (∃ s a, s = portAt .sending (some a) ∧ s.port.state = .sending ∧ s.port.answer = some a) :=
  ⟨⟨_, answerOf 62, rfl, rfl, rfl, rfl⟩, ⟨_, answerOf 0, rfl, rfl, rfl, rfl⟩, _, answerOf 1, rfl, rfl, rfl⟩

theorem witness_EveryTakenRequestIsAnswered :
    (requestIn (.collect ⟨0, 31, 0, []⟩) = some (0x02, ⟨0, 31, 0, []⟩) ∧
      (Instr.collect ⟨0, 31, 0, []⟩).wf = true ∧ ready.takes ⟨0, 31, 0, []⟩) ∧
    (ready.takes (req [10]) ∧ unknownStatus (req [10]).params = some (10, .unknown)) ∧
    (∀ x, Instr.collect (req []) ≠ .status x) ∧
    (0 : Byte).toNat = 0 ∧ 9 < (10 : Byte).toNat ∧ 0x13 < (0x14 : Byte).toNat ∧
    11 < (12 : Byte).toNat :=
  ⟨by decide +kernel, by decide +kernel, nofun, by decide +kernel⟩

theorem witness_UntakenRequestsDoNothingElse :
    requestIn (.status (req [])) = some (0x01, req []) ∧ (Instr.status (req [])).wf = true ∧
      (portAt .answerPending none).port.state = .answerPending ∧
      (portAt .silenceWait none).port.state = .silenceWait ∧
      (portAt .sending none).port.state = .sending := by decide +kernel

theorem witness_StatusReportsThenClears :
    ready.takes (req []) ∧ (req []).params = [] ∧ ready.takes (req [1]) ∧ (req [1]).params ≠ [] := by
  decide +kernel

theorem witness_CollectTakesTheHighestThenTheOldest :
    ready.takes (req []) ∧ (req []).params = [] ∧ ready.takes (req [1]) ∧ (req [1]).params ≠ [] ∧
      (∃ out left, (sixteen.map (·.point)).Nodup ∧ collectNotices 4 sixteen = (out, left) ∧
        out.length = 4) ∧
      ∃ out left, (([] : List Notice).map (·.point)).Nodup ∧ collectNotices 4 [] = (out, left) :=
  ⟨by decide +kernel, by decide +kernel, by decide +kernel, by decide +kernel,
    ⟨_, _, by decide +kernel, rfl, by decide +kernel⟩, _, _, by decide +kernel, rfl⟩

theorem witness_RecordReadsAnswerTheirRecord :
    [(1, [11]), (1, [12]), (2, [3]), (2, [4]), (3, []), (4, []), (5, []), (6, [1]), (6, [30]), (6, [31]),
      (7, [0]), (7, [30]), (8, [39]), (8, [40]), (9, []), (10, [0, 0, 0, 1]), (11, [])].all
        (fun x : Byte × List Byte => decide (ready.takes (req (x.1 :: x.2)))) = true := by decide +kernel

theorem witness_RecordsHaveTheirSizes :
    (∃ c, ready.plant.alarms.capture = some c) ∧
    (inPlant (fun p => { p with alarms := { p.alarms with capture := none } }) ready).plant.alarms.capture
      = none ∧
    ready.plant.alarms.history ≠ [] ∧
    ∃ a b : HistoryEntry, a.seq = 1 ∧ b.seq = 3 ∧ a.seq ≤ b.seq ∧
      (∀ h ∈ ready.plant.alarms.history, a.seq ≤ h.seq ∧ h.seq ≤ b.seq) ∧ 0 < a.seq ∧ b.seq < 4 ∧
      ∃ h ∈ ready.plant.alarms.history, h.seq = 3 :=
  ⟨⟨_, rfl⟩, rfl, by decide +kernel, ⟨1, .zero, none, .restart .powerOn⟩, ⟨3, .zero, some 27, .raise⟩,
    rfl, rfl, by decide +kernel⟩

theorem witness_CursorAndReadEntries :
    (ready.takes (req [0]) ∧ (req [0]).params.length ≠ 2) ∧
    (ready.takes (req [13, 0]) ∧ 12 < (13 : Byte).toNat) ∧
    (ready.takes (req [12, 1]) ∧ TableId.all[(12 : Byte).toNat]? = some .supervision ∧
      TableId.supervision.count ≤ (1 : Byte).toNat) ∧
    (ready.takes (req [0, 32]) ∧ TableId.all[(0 : Byte).toNat]? = some .stationMap ∧
      (32 : Byte).toNat < TableId.stationMap.count) ∧
    (ready.takes (req []) ∧ (req []).params.length ≠ 1) ∧
    (ready.takes (req [16]) ∧ 61 < (16 : Byte).toNat * TableId.stationMap.entrySize) ∧
    ((cursorAt .stationMap 33).takes (req [1]) ∧ TableId.stationMap.count < 33 + (1 : Byte).toNat) ∧
    ((cursorAt .stationMap 18).takes (req [15]) ∧ 18 + (15 : Byte).toNat ≤ TableId.stationMap.count ∧
      (15 : Byte).toNat * TableId.stationMap.entrySize ≤ 61) := by decide +kernel

theorem witness_WriteEntriesChecksInOrder :
    (ready.takes (req []) ∧ (req []).params = []) ∧
    (ready.takes (req [1]) ∧ ([] : List Byte).length ≠ (1 : Byte).toNat * 4) ∧
    (saving.takes (req [0]) ∧ saving.store.state = .saving ∧
      ([] : List Byte).length = (0 : Byte).toNat * saving.request.cursor.table.entrySize) ∧
    ((cursorAt .supervision 1).takes (req [1, 0, 0, 0, 60, 1, 128, 0]) ∧
      TableId.supervision.entrySize = 7 ∧ TableId.supervision.count < 1 + (1 : Byte).toNat) ∧
    (locked.takes (req (1 :: List.replicate 41 0)) ∧ locked.request.lock = true ∧
      locked.request.cursor.table = .profile) ∧
    ((cursorAt .supervision 0).takes (req [1, 0, 0, 0, 60, 1, 128, 0]) ∧
      0 + (1 : Byte).toNat ≤ TableId.supervision.count ∧
      (((cursorAt .supervision 0).taken 0x05 (req [1, 0, 0, 0, 60, 1, 128, 0])).writeAll
        (pieces 7 1 [0, 0, 0, 60, 1, 128, 0])).2 = 1 ∧
      (((cursorAt .supervision 0).taken 0x05 (req [1, 0, 0, 0, 59, 1, 128, 0])).writeAll
        (pieces 7 1 [0, 0, 0, 59, 1, 128, 0])).2 < 1) := by decide +kernel

theorem witness_AnEntryIsWrittenWholeOrNotAtAll :
    (cursorAt .supervision 0).writeEntry [0, 0, 0, 59, 1, 128, 0] = none ∧
    ((cursorAt .supervision 0).writeEntry [0, 0, 0, 60, 1, 128, 0]).isSome = true ∧
    (cursorAt .supervision 0).request.cursor.index < TableId.supervision.count ∧
    (cursorAt .supervision 0).env.tables.valid .supervision 0
      (readFields TableId.supervision.fields [0, 0, 0, 60, 1, 128, 0]) = true ∧
    (32 < TableId.stationMap.count ∧ TableId.stationMap ≠ .supervision) := by decide +kernel

theorem witness_StationMapEntriesAreChecked :
    [((1 : Nat), (1 : Int), (11 : Int)), (30, 2, 3), (30, 3, 0), (31, 0, 7), (32, 1, 5), (5, 4, 9),
      (5, 0, 9)].all (fun x => (Tables.default.write .stationMap x.1 [x.2.1, x.2.2, 2, 0]).isSome) =
        true := by decide +kernel

theorem witness_SavesAreTakenAndChecked :
    (ready.takes (req [0x11]) ∧ ready.store.state ≠ .saving) ∧
    (saving.takes (req [0x11]) ∧ saving.store.state = .saving) := by decide +kernel

set_option maxRecDepth 100000 in
theorem witness_SavesAreChecked_damaged :
    loadImage (damaged saving.store.image [1]) = none := by decide +kernel

set_option maxRecDepth 100000 in
theorem witness_SavesAreChecked_undamaged :
    (loadImage (damaged saving.store.image [])).isSome = true := by decide +kernel

set_option maxRecDepth 100000 in
theorem witness_ASavedImageLoadsAsItsTables :
    Tables.default.wf = true ∧ be 2 (crc16 Tables.default.bytes) ≠ [0, 0] := by decide +kernel

theorem witness_ForceBoostEntersBoost :
    floating.takes (req [0x01]) ∧ (req [0x01]).params = [0x01] ∧
    ((floating.taken 0x07 (req [0x01])).plant.charge.state = .float ∧
      (floating.taken 0x07 (req [0x01])).plant.charge.overTemp = false) ∧
    ((inCharge (fun c => { c with overTemp := true }) floating).taken 0x07 (req [0x01])).plant.charge.overTemp
      = true ∧
    (ready.taken 0x07 (req [0x01])).plant.charge.state ≠ .float := by decide +kernel

/-- FLOAT on mains with string 0 reporting at the least SOC that a test asks for, and the run unit OFF. -/
def testable : State := inPlant (fun p => { p with
  charge := { p.charge with source := .mains }
  gen := { p.gen with run := .off }
  battery := { p.battery with weakestSoc := 95 }
  strings := p.strings.set 0 { p.strings[0] with status := .reporting, estimated := false } }) floating

theorem witness_StartTestNeedsItsConditions :
    testable.takes (req [0x03]) ∧ (testable.taken 0x07 (req [0x03])).plant.testMayStart
      (testable.taken 0x07 (req [0x03])).env = true ∧
    (ready.taken 0x07 (req [0x03])).plant.testMayStart (ready.taken 0x07 (req [0x03])).env = false := by
  decide +kernel

theorem witness_ResyncFullSetsReportingStringsFull :
    testable.takes (req [0x05]) ∧ (testable.taken 0x07 (req [0x05])).plant.charge.state = .float ∧
    (testable.taken 0x07 (req [0x05])).plant.strings[0].status = .reporting ∧
    (testable.taken 0x07 (req [0x05])).plant.strings[3].status ≠ .reporting ∧
    (ready.taken 0x07 (req [0x05])).plant.charge.state ≠ .float := by decide +kernel

theorem witness_StartEqualizeAndStopTest :
    (floating.takes (req [0x02]) ∧ (floating.taken 0x07 (req [0x02])).plant.charge.state = .float ∧
      (floating.taken 0x07 (req [0x02])).plant.charge.overTemp = false) ∧
    (ready.taken 0x07 (req [0x02])).plant.charge.state ≠ .float ∧
    (floating.takes (req [0x04]) ∧
      ((plantAt .test).taken 0x07 (req [0x04])).plant.charge.state = .test ∧
      (floating.taken 0x07 (req [0x04])).plant.charge.state ≠ .test ∧
      (floating.taken 0x07 (req [0x04])).plant.test.pending = false ∧
      ((inPlant (fun p => { p with test := { p.test with pending := true } }) floating).taken 0x07
        (req [0x04])).plant.test.pending = true) := by decide +kernel

/-- READY with the run unit in a state. -/
def runAt (x : RunState) : State := inGen (fun g => { g with run := x }) ready

/-- READY with start reasons. -/
def reasonsAt (exercise manual : Bool) : State :=
  inGen (fun g => { g with reasons := ⟨false, false, false, exercise, manual⟩ }) ready

theorem witness_GeneratorCommands :
    ((runAt .off).takes (req [0x06]) ∧ ((runAt .off).taken 0x07 (req [0x06])).plant.gen.run = .off) ∧
    (ready.taken 0x07 (req [0x06])).plant.gen.run = .disabled ∧
    ((runAt .lockedOut).taken 0x07 (req [0x06])).plant.gen.run = .lockedOut ∧
    (ready.takes (req [0x07]) ∧
      (ready.taken 0x07 (req [0x07])).plant.gen.reasons = ⟨false, false, false, false, false⟩ ∧
      ((reasonsAt false true).taken 0x07 (req [0x07])).plant.gen.reasons =
        ⟨false, false, false, false, true⟩ ∧
      ((reasonsAt true false).taken 0x07 (req [0x07])).plant.gen.reasons =
        ⟨false, false, false, true, false⟩) ∧
    ((runAt .failed).takes (req [0x08]) ∧
      ((runAt .failed).taken 0x07 (req [0x08])).plant.gen.run = .failed ∧
      ((runAt .onLoad).taken 0x07 (req [0x08])).plant.gen.run = .onLoad) := by decide +kernel

/-- A rectifier record in a status that has reported. -/
def rectOf (st : RectStatus) : RectRec := { RectRec.absent with status := st, report := some rectReport }

/-- Rectifier 0 ACTIVE, 1 in STANDBY, 2 walking in for a rotation, 3 FAULTED, 4 LOST, 5 LOCKED_OUT. -/
def mixed : RectUnit :=
  { State.reset.plant.rect with
    records := (((((State.reset.plant.rect.records.set 0 (rectOf .active)).set 1 (rectOf .standby)).set 2
      (rectOf .walkingIn)).set 3 (rectOf .faulted)).set 4 (rectOf .lost)).set 5 (rectOf .lockedOut)
    duty := [0, 1, 2], out := [5, 4, 3], walkIn := [2], inFlight := some 2 }

/-- FLOAT with that rectifier duty unit. -/
def mixedAt : State := inRect (fun _ => mixed) floating

/-- FLOAT with rectifier 11 alone on duty. -/
def alone : State := inRect (fun r => { r with
  records := r.records.set 11 (rectOf .active), duty := [11] }) floating

/-- FLOAT with rectifier 5, which station 30 is, LOCKED_OUT, and its link in a status. -/
def linkOf5 (st : LinkStatus) : State :=
  inTables (fun t => { t with stationMap := t.stationMap.set 30 ⟨.rectifier, 5, .clamp, true⟩ })
    (inPlant (fun p => { p with links := p.links.set 30 ⟨st, 0, 0, none⟩ }) mixedAt)

theorem witness_RectifierCommands :
    (mixedAt.takes (req [0x09, 11]) ∧ (mixedAt.taken 0x07 (req [0x09, 11])).plant.rect.status 11 = .absent ∧
      (mixedAt.taken 0x07 (req [0x09, 5])).plant.rect.status 5 = .lockedOut ∧
      (((alone.taken 0x07 (req [0x09, 11])).plant.rect.status 11).onDuty = true ∧
        (alone.taken 0x07 (req [0x09, 11])).plant.rect.duty.length = 1) ∧
      (((mixedAt.taken 0x07 (req [0x09, 0])).plant.rect.status 0).onDuty = true ∧
        (mixedAt.taken 0x07 (req [0x09, 0])).plant.rect.duty.length ≠ 1) ∧
      (mixedAt.taken 0x07 (req [0x09, 4])).plant.rect.status 4 = .lost) ∧
    ((linkOf5 .lost).takes (req [0x0A, 5]) ∧ ∀ u, u = (linkOf5 .lost).taken 0x07 (req [0x0A, 5]) →
      u.plant.rect.status 5 = .lockedOut ∧ u.plant.linkOf (u.env.rectStation 5) = .lost) ∧
    ((linkOf5 .reporting).takes (req [0x0A, 5]) ∧
      ∀ u, u = (linkOf5 .reporting).taken 0x07 (req [0x0A, 5]) →
        u.plant.rect.status 5 = .lockedOut ∧ u.plant.linkOf (u.env.rectStation 5) ≠ .lost) ∧
    (mixedAt.taken 0x07 (req [0x0A, 0])).plant.rect.status 0 ≠ .lockedOut := by
  refine ⟨by decide +kernel, ⟨by decide +kernel, ?_⟩, ⟨by decide +kernel, ?_⟩, by decide +kernel⟩ <;>
    (intro u h; subst h; decide +kernel)

theorem witness_RotateNow :
    (mixedAt.takes (req [0x0B]) ∧ (mixedAt.taken 0x07 (req [0x0B])).plant.rect.inFlight ≠ none) ∧
    (let s := inRect (fun r => { r with inFlight := none }) mixedAt
     let u := s.taken 0x07 (req [0x0B])
     s.takes (req [0x0B]) ∧ u.plant.charge.state ≠ .startUp ∧ u.env.mode = .auto ∧
      u.plant.rect.inFlight = none ∧ u.plant.rect.standbys ≠ []) ∧
    (alone.taken 0x07 (req [0x0B])).plant.rect.standbys = [] ∧
    ((modeAt .manual floating).taken 0x07 (req [0x0B])).env.mode = .manual ∧
    (ready.taken 0x07 (req [0x0B])).plant.charge.state = .startUp := by decide +kernel

/-- An order on the line, its window running from 1,000 ms for 30 ms. -/
def orderTxn (o : Order) : Txn :=
  ⟨o.station, .order, 140, o.body.payload, .order o, .running 1000 30, false, false⟩

/-- A poll on the line. -/
def pollTxn : Txn := ⟨30, .poll, 140, [], .poll, .running 1000 30, false, false⟩

/-- A SET_STATE order of rectifier 0 at station 5. -/
def stateOrder : Order := ⟨5, .setState true, 0, .rect 0⟩

theorem witness_ModeCommands :
    (ready.takes (req [0x0C]) ∧ ready.env.mode = .auto ∧ (modeAt .manual ready).takes (req [0x0C]) ∧
      (modeAt .manual ready).env.mode = .manual) ∧
    (inPlant (fun p => { p with test := { p.test with outcome := .running } })
      (plantAt .test)).plant.test.outcome = .running ∧
    (inLine (fun l => { l with txn := some (orderTxn stateOrder) }) ready).line.txn =
      some (orderTxn stateOrder) ∧
    (orderTxn stateOrder).carried = .order stateOrder ∧ stateOrder.body.isEngine = false := by
  decide +kernel

/-- A plant with point 39 in a state. -/
def point39 (x : PointState) (acked : Bool) : Plant :=
  { State.reset.plant with alarms := { State.reset.plant.alarms with
    points := State.reset.plant.alarms.points.set 39 ⟨true, x, acked, .running 1000 60000, some 1⟩ } }

theorem witness_AlarmCommands :
    (ready.takes (req [0x0E]) ∧ ([] : List Byte).length = 0) ∧
    (ready.takes (req [0x0E, 0, 0, 0, 0, 1]) ∧ ([0, 0, 0, 0, 1] : List Byte).length = 5) ∧
    ((point39 .active true).alarms.points[39].acked = true ∧
      (point39 .clearing false).alarms.points[39].state = .clearing ∧
      (point39 .clearing false).alarms.points[39].acked = false ∧
      (point39 .held false).alarms.points[39].state = .held ∧
      (point39 .raising false).alarms.points[39].state = .raising) ∧
    (((point39 .held false).ackPoint ready.env 39).2 = true ∧ ready.env.enabled 39 = true) ∧
    ready.takes (req [0x0F]) := by decide +kernel

theorem witness_SetTimeAndRestart :
    (ready.takes (req (0x10 :: be 4 4294967295)) ∧ 4294967295 < 4294967296) ∧
    ready.takes (req [0x13]) ∧
    (∃ t₁ t₂, exec .answerStart ((ready.taken 0x07 (req [0x13])).answered 0x07 (req [0x13]) .ok [0x13]) =
      .next t₁ ∧ exec (.answerSent 2100) t₁ = .next t₂) ∧
    ready.request.restartDue = false :=
  ⟨by decide +kernel, by decide +kernel, ⟨_, _, rfl, rfl⟩, rfl⟩

theorem witness_CommandParametersAreChecked :
    [0x01, 0x02, 0x03, 0x04, 0x05, 0x06, 0x07, 0x08, 0x0B, 0x0C, 0x0D, 0x0F, 0x11, 0x12, 0x13].all
      (fun x : Byte => decide (ready.takes (req [x, 0]))) = true ∧
    (ready.takes (req [0x0E, 0]) ∧ ([0] : List Byte).length ≠ 0 ∧ ([0] : List Byte).length ≠ 5) ∧
    (ready.takes (req [0x10, 0, 0, 0]) ∧ ([0, 0, 0] : List Byte).length ≠ 4) ∧
    (ready.takes (req [0x09]) ∧ ([] : List Byte).length ≠ 1 ∧ ready.takes (req [0x0A])) ∧
    (ready.takes (req [0x09, 12]) ∧ ready.takes (req [0x0A, 255]) ∧ 11 < (12 : Byte).toNat) := by
  decide +kernel

/-- An exchange of station 30 in a state. -/
def exchange (tag : Byte) (x : ExState) : Exchange := ⟨tag, 30, .order, [1], x⟩

/-- READY with eight exchanges open. -/
def pool8 : State := inLine (fun l => { l with
  pool := [10, 11, 12, 13, 14, 15, 16, 17].map fun n => exchange n .queued }) ready

/-- READY with one exchange open, under tag 7. -/
def pool1 (x : ExState) : State := inLine (fun l => { l with pool := [exchange 7 x] }) ready

/-- READY with a station's role and policy. -/
def entryAt (st : Nat) (h : st < 33) (role : Role) (pol : Policy) (s : State) : State :=
  inTables (fun t => { t with stationMap := t.stationMap.set st ⟨role, 0, pol, true⟩ }) s

theorem witness_RelayOpensAnExchange :
    (ready.takes (req [30]) ∧ (req [30]).params.length < 2 ∧
      58 < (req (30 :: 0x20 :: List.replicate 57 0)).params.length) ∧
    (pool8.takes (req [30, 0x20]) ∧ 8 ≤ pool8.line.pool.length) ∧
    ((pool1 .queued).line.pool.length < 8 ∧ (req []).tag ∈ (pool1 .queued).line.pool.map (·.tag)) ∧
    ((0x30 : Byte) ≠ kindPoll ∧ (0x30 : Byte) ≠ kindOrder ∧ 31 < (32 : Byte).toNat ∧
      (31 : Byte).toNat = 31) ∧
    (ready.takes (req (30 :: 0x20 :: List.replicate 56 0)) ∧ ready.line.pool.length < 8 ∧
      (req []).tag ∉ ready.line.pool.map (·.tag) ∧ BusKind.order.byte = 0x20 ∧
      (30 : Byte) = BitVec.ofNat 8 (30 : Station).val ∧ (30 : Station).val ≠ 0 ∧
      ready.env.guardPasses 30 .order = false ∧
      (entryAt 30 (by omega) .foreign .pass ready).env.guardPasses 30 .order = true ∧
      (entryAt 31 (by omega) .unused .clamp ready).env.guardPasses 31 .order = true) := by decide +kernel

theorem witness_ResultFreesADoneExchange :
    (ready.takes (req []) ∧ (req []).params.length ≠ 1) ∧
    (ready.takes (req [7]) ∧ (7 : Byte) ∉ ready.line.pool.map (·.tag)) ∧
    ((pool1 .sent).takes (req [7]) ∧ exchange 7 .sent ∈ (pool1 .sent).line.pool ∧
      ((pool1 .sent).line.pool.map (·.tag)).Nodup) ∧
    (let d : ExState := .done .answered (some (List.replicate 64 0)) 900 (.running 1000 30000)
     (pool1 d).takes (req [7]) ∧ exchange 7 d ∈ (pool1 d).line.pool ∧
      ((pool1 d).line.pool.map (·.tag)).Nodup ∧ (List.replicate 64 (0 : Byte)).length ≤ 64) := by
  decide +kernel

theorem witness_GuardAndClamp :
    (ready.env.tables.profile.busMin < ready.env.tables.profile.busMax ∧
      ready.env.tables.profile.busMax < 4294967296 ∧
      (entryAt 30 (by omega) .rectifier .clamp ready).env.policy 30 = .clamp ∧ 65535 < 65536) ∧
    (ready.plant.gen.allowance = none ∧
      (inGen (fun g => { g with allowance := some 1021 }) ready).plant.gen.allowance = some 1021) ∧
    (ready.env.policy 30 ≠ .clamp ∧ readSetOutput [2, 1] = none) ∧
    ((30 : Station).val ≠ 31 ∧
      (entryAt 30 (by omega) .rectifier .clamp mixedAt).env.rectOf 30 = some 0 ∧
      mixedAt.plant.rect.records[0].report = some rectReport) := by decide +kernel

/-- READY with the poll list of the worked example. -/
def polling : State := inTables (fun _ => pollTables) ready

theorem witness_TheArbiterChooses :
    (let s := inLine (fun l => { l with arbCount := 2 }) polling
     s.line.txn = none ∧ s.line.arbCount = 2 ∧
      (s.bringTo (s.line.quietFrom + silenceMs s.line.rate)).nextPoll.isSome = true) ∧
    (ready.line.txn = none ∧ ready.line.arbCount ≠ 2 ∧ ready.line.oldestQueued = none ∧
      ready.plant.queue = [] ∧
      (ready.bringTo (ready.line.quietFrom + silenceMs ready.line.rate)).nextPoll = none) ∧
    (inPlant (fun p => { p with queue := sixteenOrders }) ready).plant.queue = sixteenOrders ∧
    ((pool1 .queued).line.oldestQueued = some (exchange 7 .queued) ∧
      (pool1 .queued).env.guardPasses (exchange 7 .queued).target (exchange 7 .queued).kind = false ∧
      (entryAt 30 (by omega) .foreign .pass (pool1 .queued)).env.guardPasses 30 .order = true) := by
  decide +kernel

theorem witness_PollSearchFindsTheFirstDueSlot :
    (7 < 8 ∧ 23 < 24) ∧
    (polling.plant.searchPoll polling.env 192 23 7).isSome = true ∧
    ready.plant.searchPoll ready.env 192 23 7 = none := by decide +kernel

theorem witness_ReplyWindowRuns :
    (let x := { pollTxn with window := .stopped }
     (inLine (fun l => { l with txn := some x }) ready).line.txn = some x ∧ x.window = .stopped ∧
      x.station.val ≠ 31) ∧
    (let x := { orderTxn stateOrder with station := 31, window := .stopped }
     (inLine (fun l => { l with txn := some x }) ready).line.txn = some x ∧ x.window = .stopped ∧
      x.station.val = 31) ∧
    ((inLine (fun l => { l with txn := some pollTxn }) ready).line.txn = some pollTxn ∧
      pollTxn.window = .running 1000 30 ∧ pollTxn.voided = false) ∧
    (orderTxn stateOrder).carried = .order stateOrder ∧ (orderTxn stateOrder).voided = false := by
  decide +kernel

theorem witness_ReplyWindowRuns_poll : ∀ o, pollTxn.carried ≠ .order o := nofun

/-- The state with station 30 a rectifier that is being polled, or is given an order. -/
def busy (x : Txn) : State :=
  entryAt 30 (by omega) .rectifier .clamp (inLine (fun l => { l with txn := some x }) ready)

/-- Station 30's REPORT of a rectifier, from 1,000 to 1,004 ms, in the window from 1,000 ms on. -/
def reportFrame : Frame :=
  ⟨0, 30, kindReport, 140, be 4 53520 ++ be 2 200 ++ be 2 500 ++ be 2 250 ++ [3, 0]⟩

theorem witness_QualifyingRepliesEndTheTransaction :
    pollTxn.qualifying (heard reportFrame) = some reportFrame ∧
    (busy pollTxn).line.txn = some pollTxn ∧
    (reportSignals ((busy pollTxn).env.entry 30) reportFrame.payload 1004).isSome = true ∧
    (pollTxn.qualifying (heard { reportFrame with payload := [1] }) = some { reportFrame with payload := [1] } ∧
      reportSignals ((busy pollTxn).env.entry 30) [1] 1004 = none) ∧
    (let o : Order := { stateOrder with station := 30 }
     let c : Frame := ⟨0, 30, kindConfirm, 140, [0x02]⟩
     let d : Frame := ⟨0, 30, kindDecline, 140, [0x02, 4]⟩
     (orderTxn o).qualifying (heard c) = some c ∧ (orderTxn o).qualifying (heard d) = some d ∧
      replyFits kindConfirm c.payload (orderTxn o).payload = true ∧
      replyFits kindDecline d.payload (orderTxn o).payload = true ∧
      replyFits kindConfirm [] (orderTxn o).payload = false ∧
      replyFits kindDecline [0x02] (orderTxn o).payload = false) := by decide +kernel

theorem witness_OtherBusFramesAreDiscarded :
    ready.line.txn = none ∧ (busy pollTxn).line.txn = some pollTxn ∧
    (pollTxn.window = .running 1000 30 ∧ pollTxn.qualifying ⟨[0xC3], false, 1030, 1030⟩ = none ∧
      1000 ≤ 1030 ∧ 1030 ≤ 1000 + 30 ∧ 1000 + 30 ≤ 1030) ∧
    (999 < 1000 ∧ 1000 + 30 < 1031 ∧ 1029 < 1000 + 30) := by decide +kernel

/-- A plant with the link of station 30 at its counts. -/
def link30 (st : LinkStatus) (misses goods : Nat) : Plant :=
  { State.reset.plant with links := State.reset.plant.links.set 30 ⟨st, misses, goods, none⟩ }

theorem witness_LinkRecordsFollowReplies :
    (busy pollTxn).env.role 30 ≠ .unused ∧ ready.env.role 30 = .unused ∧ (1 : Station) ≠ 30 ∧
    ((link30 .discovering 0 255).links[30].status = .discovering ∧
      (link30 .lost 0 1).links[30].status = .lost ∧
      (busy pollTxn).env.tables.fieldTiming.recoveryCount ≤ min ((link30 .lost 0 1).links[30].goods + 1) 255 ∧
      (link30 .reporting 2 0).links[30].status = .reporting ∧
      (busy pollTxn).env.tables.fieldTiming.missLimit ≤
        min ((link30 .reporting 2 0).links[30].misses + 1) 255) ∧
    ((link30 .reporting 2 0).links[30].status ≠ .lost ∧
      (⟨30, .setState true, 0, .rect 0⟩ : Order).station = 30) := by decide +kernel

theorem witness_OrdersJoinTheQueue :
    State.reset.plant.links[stateOrder.station].status = .unmapped ∧
    (link30 .lost 0 0).links[30].status = .lost ∧ (link30 .discovering 0 0).links[30].status = .discovering ∧
    (link30 .reporting 0 0).links[30].status = .reporting ∧
    (queueLaw ([] ++ stateOrder :: []) ∧ stateOrder.matches stateOrder = true) ∧
    ((sixteenOrders.take 15).any stateOrder.matches = false ∧ (sixteenOrders.take 15).length < 16) ∧
    ((sixteenOrders.any stateOrder.matches = false ∧ 16 ≤ sixteenOrders.length) ∧
      sixteenOrders = sixteenOrders.take 1 ++ ⟨1, .setOutput 53520 500, 0, .gen⟩ :: sixteenOrders.drop 2 ∧
      (∀ x ∈ sixteenOrders.take 1, x.body.isSetOutput = false)) ∧
    (let q := sixteenOrders.map fun o => { o with body := .engine .start }
     q.any stateOrder.matches = false ∧ 16 ≤ q.length ∧ ∀ x ∈ q, x.body.isSetOutput = false) := by
  decide +kernel

/-- A timer that ends at 5,000 ms. -/
def ends5 : Timer := .running 2000 3000

/-- The state with every timer of the charge controller running, in a plant state. -/
def timed (x : PlantState) : State := inCharge (fun c => { c with
  state := x, evaluation := ends5, startHold := ends5, dischargeDebounce := ends5
  recoveryDebounce := ends5, boost := ends5, taper := ends5, equalizeDuration := ends5 }) ready

theorem witness_ChargeTimersExpire :
    (timed .startUp).plant.charge.evaluation = .running 2000 3000 ∧
    ((timed .startUp).plant.charge.startHold = .running 2000 3000 ∧
      (timed .startUp).plant.charge.state = .startUp) ∧
    ((timed .float).plant.charge.dischargeDebounce = .running 2000 3000 ∧
      (timed .float).plant.charge.state = .float ∧ (timed .equalize).plant.charge.state = .equalize) ∧
    ((timed .discharge).plant.charge.recoveryDebounce = .running 2000 3000 ∧
      (timed .discharge).plant.charge.state = .discharge) ∧
    ((timed .boost).plant.charge.boost = .running 2000 3000 ∧
      (timed .boost).plant.charge.taper = .running 2000 3000 ∧ (timed .boost).plant.charge.state = .boost) ∧
    (timed .equalize).plant.charge.equalizeDuration = .running 2000 3000 ∧
    ready.plant.battery.hold = .running 0 600000 := by decide +kernel

/-- A plant with load disconnect in a state, its timers running, and a bus voltage. -/
def ldAt (x : LdState) (bus : Option Nat) (source : Source) : Plant :=
  { State.reset.plant with
    ld := ⟨x, ends5, ends5, ends5, false⟩
    charge := { State.reset.plant.charge with source := source }
    battery := { State.reset.plant.battery with busVoltage := bus } }

theorem witness_TestAndDisconnectTimersExpire :
    (let p : Plant := { State.reset.plant with test := { State.reset.plant.test with
        duration := ends5, outcome := .running } }
     p.test.duration = .running 2000 3000 ∧ p.test.outcome = .running) ∧
    ((ldAt .disconnectPending none .none).ld.disconnect = .running 2000 3000 ∧
      (ldAt .disconnectPending none .none).ld.state = .disconnectPending) ∧
    ((ldAt .reconnectPending none .none).ld.reconnect = .running 2000 3000 ∧
      (ldAt .reconnectPending none .none).ld.state = .reconnectPending) ∧
    (ldAt .connected none .none).ld.mismatchTimer = .running 2000 3000 ∧
    ((ldAt .connected (some 42000) .none).ld.state = .connected ∧
      42000 ≤ ready.env.tables.loadDisconnect.disconnectVoltage ∧
      ¬ 42001 ≤ ready.env.tables.loadDisconnect.disconnectVoltage) ∧
    ((ldAt .disconnected (some 49000) .mains).ld.state = .disconnected ∧
      ready.env.tables.loadDisconnect.reconnectVoltage ≤ 49000 ∧
      ¬ ready.env.tables.loadDisconnect.reconnectVoltage ≤ 48999) := by decide +kernel

theorem witness_TestAndDisconnectTimersExpire_low :
    (∃ v, (ldAt .connected (some 42000) .none).battery.busVoltage = some v ∧
      v ≤ ready.env.tables.loadDisconnect.disconnectVoltage) ∧
    (¬ ((∃ v, State.reset.plant.battery.busVoltage = some v ∧
        v ≤ ready.env.tables.loadDisconnect.disconnectVoltage) ∨
      (ready.env.tables.loadDisconnect.disconnectSoc ≠ 0 ∧ State.reset.plant.charge.state = .discharge ∧
        State.reset.plant.battery.weakestSoc ≤ ready.env.tables.loadDisconnect.disconnectSoc ∧
        State.reset.plant.gen.run ≠ .cranking ∧ State.reset.plant.gen.run ≠ .rest ∧
        State.reset.plant.gen.run ≠ .warmup))) ∧
    (∃ v, (ldAt .disconnected (some 49000) .mains).battery.busVoltage = some v ∧
      ready.env.tables.loadDisconnect.reconnectVoltage ≤ v ∧
      (ldAt .disconnected (some 49000) .mains).charge.source ≠ .none) ∧
    ¬ ∃ v, (ldAt .disconnected none .mains).battery.busVoltage = some v ∧
      ready.env.tables.loadDisconnect.reconnectVoltage ≤ v ∧
      (ldAt .disconnected none .mains).charge.source ≠ .none := by
  refine ⟨⟨42000, rfl, by decide +kernel⟩, ?_, ⟨49000, rfl, by decide +kernel, by decide +kernel⟩, ?_⟩
  · rintro (⟨v, h, _⟩ | ⟨_, h, _⟩) <;> cases h
  · rintro ⟨v, h, _⟩
    cases h

/-- The mixed rectifier unit with its timers running and records 0, 3 and 4 timed. -/
def rectTimed : RectUnit :=
  { mixed with
    sizing := ends5, shed := ends5, refresh := ends5, stagger := ends5
    records := ((mixed.records.set 0 { rectOf .active with follow := ends5 }).set 3
      { rectOf .faulted with recovery := ends5, history := [1, 2, 3] }).set 4
        { rectOf .lost with recovery := ends5 } }

theorem witness_RectifierTimersExpire :
    rectTimed.sizing = .running 2000 3000 ∧ rectTimed.shed = .running 2000 3000 ∧
    rectTimed.refresh = .running 2000 3000 ∧
    (rectTimed.stagger = .running 2000 3000 ∧ rectTimed.walkIn = 2 :: []) ∧
    (rectTimed.records[0].follow = .running 2000 3000 ∧ (rectTimed.status 0).onDuty = true) ∧
    (rectTimed.records[3].recovery = .running 2000 3000 ∧ rectTimed.status 3 = .faulted) ∧
    (rectTimed.records[4].recovery = .running 2000 3000 ∧ rectTimed.status 4 = .lost) ∧
    rectTimed.records[3].history = [1, 2, 3] ∧ (indices 12).all (fun u =>
      rectTimed.records[u].history.all fun t => decide (t ≤ (ready.bringTo 5000).env.now)) = true := by
  decide +kernel

theorem witness_RectifierTimersExpire_law : rectTimed.law := by decide +kernel

/-- The state with the run unit in a state and every timer of it running. -/
def genTimed (x : RunState) (f : GenUnit → GenUnit) : State := inGen (fun g => f { g with
  run := x, lowVoltage := ends5, dischargeTime := ends5, crank := ends5, rest := ends5, warmup := ends5
  warmupSecond := ends5, cooldown := ends5, stopConfirm := ends5, retry := ends5 }) floating

theorem witness_GeneratorTimersExpire :
    (let s := genTimed .off id
     s.plant.charge.state ≠ .startUp ∧ s.plant.gen.run ≠ .disabled ∧
      s.plant.gen.lowVoltage = .running 2000 3000 ∧ s.plant.gen.dischargeTime = .running 2000 3000) ∧
    (let s := genTimed .cranking fun g => { g with attempts := 2, cycleLimit := 3 }
     s.plant.gen.crank = .running 2000 3000 ∧ s.plant.gen.run = .cranking ∧
      s.plant.gen.mainsMark = false ∧ s.plant.gen.reasons.isEmpty = true ∧
      s.plant.gen.attempts < s.plant.gen.cycleLimit) ∧
    (let s := genTimed .cranking fun g => { g with
        attempts := 3, cycleLimit := 3, reasons := ⟨true, false, false, false, false⟩ }
     s.plant.gen.reasons.isEmpty = false ∧ s.plant.gen.cycleLimit ≤ s.plant.gen.attempts) ∧
    ((genTimed .rest id).plant.gen.rest = .running 2000 3000 ∧ (genTimed .rest id).plant.gen.run = .rest) ∧
    (let s := genTimed .warmup fun g => { g with status := .reporting }
     s.plant.gen.warmup = .running 2000 3000 ∧ s.plant.gen.warmupSecond = .running 2000 3000 ∧
      s.plant.gen.run = .warmup ∧ s.plant.gen.status = .reporting ∧ s.plant.gen.available = false) ∧
    ((genTimed .warmup id).plant.gen.status ≠ .reporting) ∧
    (genTimed .cooldown id).plant.gen.cooldown = .running 2000 3000 ∧
    ((genTimed .stopping id).plant.gen.stopConfirm = .running 2000 3000 ∧
      (genTimed .stopping id).plant.gen.status ≠ .reporting ∧
      (genTimed .stopping id).env.hasInput .genFeedback = false ∧
      (genTimed .stopping fun g => { g with status := .reporting }).plant.gen.status = .reporting) ∧
    ((genTimed .failed id).plant.gen.retry = .running 2000 3000 ∧
      (genTimed .failed id).plant.gen.run = .failed) ∧
    ((RunState.onLoad = .onLoad) ∧ (genTimed .warmup id).plant.gen.loaded = false) := by decide +kernel

/-- FLOAT on mains with a fitted genset in OFF and no rotation, in which every count runs. -/
def counting : State :=
  inTables (fun t => { t with
    plant := { t.plant with testInterval := 24 }, genset := { t.genset with fitted := true } })
    (inPlant (fun p => { p with
      charge := { p.charge with source := .mains }
      gen := { p.gen with run := .off, runStart := some 0 }
      rect := { p.rect with records := p.rect.records.set 0 { rectOf .active with carry := 60000 } } })
      floating)

theorem witness_CountsReachTheirLimits :
    counting.plant.equalizeCounts counting.env = true ∧ counting.plant.testCounts counting.env = true ∧
    counting.plant.rotationCounts counting.env = true ∧ counting.plant.exerciseCounts counting.env = true ∧
    counting.plant.gen.runStart = some 0 ∧
    (counting.plant.rect.records[0].status = .active ∧
      counting.plant.rect.records[0].report = some rectReport ∧ rectReport.acOk = true ∧
      counting.plant.rect.records[0].carry ≤ 60000) := by decide +kernel

theorem witness_ClockAndContactRows :
    (ready.request.silence = .running 0 600000 ∧ ready.env.mode = .auto ∧
      (modeAt .manual ready).env.mode = .manual) ∧
    (let old : Input := ⟨true, 2, false, 2, none, 20⟩
     (if old.streakLevel = true then min (old.streakCount + 1) 3 else 1) = 3 ∧ true ≠ old.accepted) ∧
    (let old : Input := ⟨true, 1, false, 1, none, 20⟩
     (if old.streakLevel = true then min (old.streakCount + 1) 3 else 1) ≠ 3) := by decide +kernel

/-- Tables with point 39's entry changed. -/
def alarm39 (f : AlarmEntry → AlarmEntry) : Env :=
  { State.reset.env with
    tables := { Tables.default with
      alarms := Tables.default.alarms.set 39 (f (AlarmEntry.default 39)) } }

/-- The same delay for a raise and a clear, with a latch. -/
def delayed (delay : Nat) (latching : Bool) : Env :=
  alarm39 fun x => { x with raiseDelay := delay, clearDelay := delay, latching := latching }

theorem witness_PointsMoveByTheirTable :
    (State.reset.plant.alarms.points[39].condition = false ∧
      State.reset.plant.alarms.points[39].state = .idle ∧
      (delayed 0 false).tables.alarms[39].raiseDelay = 0 ∧
      (delayed 3600 false).tables.alarms[39].raiseDelay ≠ 0) ∧
    ((point39 .raising false).alarms.points[39].condition = true ∧
      (point39 .active false).alarms.points[39].state = .active ∧
      (delayed 0 true).tables.alarms[39].latching = true ∧
      (delayed 0 true).tables.alarms[39].clearDelay = 0 ∧
      (delayed 3600 false).tables.alarms[39].clearDelay ≠ 0) ∧
    ((point39 .clearing false).alarms.points[39].delay = .running 1000 60000 ∧
      (point39 .clearing true).alarms.points[39].acked = true ∧
      (point39 .raising false).alarms.points[39].state = .raising) := by decide +kernel

theorem witness_TransitionsAreRecorded :
    ready.env.enabled 39 = true ∧ ready.env.tables.alarms[39].route = .notice ∧
    ((sixteen.map (·.point)).Nodup ∧ sixteen.length = 16 ∧ 39 ∉ sixteen.map (·.point) ∧
      sixteen = sixteen.take 12 ++ notice 20 .warning :: sixteen.drop 13 ∧
      Severity.warning.toNat < (ready.env.tables.alarms[39].severity).toNat ∧
      (∀ y ∈ sixteen.take 12, Severity.warning.toNat < y.severity.toNat) ∧
      (∀ y ∈ sixteen.drop 13, Severity.warning.toNat ≤ y.severity.toNat) ∧
      (∀ m ∈ sixteen, Severity.warning.toNat ≤ m.severity.toNat)) ∧
    ((ready.env.tables.alarms[39].severity).toNat <
        ready.env.tables.supervision.captureThreshold.toNat ∧
      ready.env.tables.supervision.captureThreshold.toNat ≤ (ready.env.tables.alarms[26].severity).toNat ∧
      ready.env.tables.supervision.captureThreshold.toNat ≤ (ready.env.tables.alarms[29].severity).toNat) ∧
    (∃ c, ready.plant.alarms.capture = some c ∧
      c.severity.toNat < (ready.env.tables.alarms[29].severity).toNat ∧
      (ready.env.tables.alarms[26].severity).toNat ≤ c.severity.toNat) := by
  refine ⟨by decide +kernel, by decide +kernel, by decide +kernel, by decide +kernel, ?_⟩
  exact ⟨_, rfl, by decide +kernel, by decide +kernel⟩

/-- A point whose route or enable leaves it unrecorded, or in the history alone. -/
def routed (enable : Bool) (route : Route) : Env :=
  alarm39 fun x => { x with enable := enable, route := route }

theorem witness_TransitionsAreRecorded_routes :
    (routed false .notice).enabled 39 = false ∧
    ((routed true .silent).enabled 39 = true ∧ (routed true .silent).tables.alarms[39].route = .silent) ∧
    (routed true .historyOnly).tables.alarms[39].route = .historyOnly := by decide +kernel

theorem witness_ResetsLeaveTheirState :
    ready.env.tables.strings[0].capacity ≠ 0 ∧ (∃ c, ready.plant.alarms.capture = some c) ∧
    (30 : Station).val ≠ 0 ∧ (30 : Station).val ≠ 31 :=
  ⟨by decide +kernel, ⟨_, rfl⟩, by decide, by decide⟩

theorem witness_ReportsAreIntegrated :
    ready.env.fitted 0 = true ∧
    (StringRec.absent.status ≠ .reporting ∧ StringRec.absent.tPrev = none) ∧
    (string0.status = .reporting ∧ string0.tPrev = some 100000 ∧ 100000 ≤ 100000) ∧
    ((200000 : Int) ≤ ready.env.capacity 0) ∧
    (let x : StringRec := { string0 with tempValid := true }
     let p : Plant := { State.reset.plant with strings := State.reset.plant.strings.set 3 x }
     p.strings[3].status = .reporting ∧ p.strings[3].tempValid = true ∧
      ∀ j : StringIx, j.val < 3 → p.strings[j].status ≠ .reporting) ∧
    (∀ i : StringIx, State.reset.plant.strings[i].status = .reporting →
      State.reset.plant.strings[i].tempValid = false) ∧
    (State.reset.plant.battery.tSource ≠ .live) := by decide +kernel

theorem witness_ReportsAreIntegrated_ranges :
    (let e := State.reset.env
     let hi : Int := e.tables.strings[0].capacity * 1000
     let lo : Int := -(e.tables.strings[0].capacity * 10 * e.tables.profile.overcharge)
     hi < hi - Int.tdiv (-36000) 36000 ∧ lo - Int.tdiv 36000 36000 < lo ∧ lo ≤ 50000 - Int.tdiv 0 36000 ∧
      50000 - Int.tdiv 0 36000 ≤ hi) ∧ 5000 < 105001 - 100000 := by decide +kernel

theorem witness_TheSetpointIsWorkedOut :
    ready.env.tables.profile.busMin ≤ ready.env.tables.profile.busMax ∧
    (ready.env.mode = .auto ∧ floating.plant.charge.state = .float ∧
      (floating.plant.charge.iLim : Int) < 1 ∧ ((400 * 90 / 100 : Nat) : Int) ≤ 360 ∧ (360 : Int) ≤ 400 ∧
      (359 : Int) < ((400 * 90 / 100 : Nat) : Int)) ∧
    ((modeAt .manual ready).env.mode = .manual ∧ ready.plant.charge.state = .startUp) := by decide +kernel

/-- Rectifiers 0 and 11 ACTIVE on a generator's allowance. -/
def allowed : Plant := { floating.plant with
  gen := { floating.plant.gen with allowance := some 1021 }
  rect := { floating.plant.rect with
    records := (floating.plant.rect.records.set 0 (rectOf .active)).set 11 (rectOf .active)
    duty := [11, 0] } }

theorem witness_ComposedLimitsStayWithinTheAllowance :
    allowed.rect.law ∧ allowed.canOrder floating.env = true ∧
    (∀ u : RectIx, allowed.rect.status u = .active → allowed.rect.records[u].report.isSome = true) ∧
    (allowed.rect.status 11 = .active ∧ allowed.rect.records[11].report = some rectReport ∧
      allowed.gen.allowance = some 1021) ∧
    allowed.rect.status 1 ≠ .active ∧
    ((modeAt .manual ready).env.mode = .manual ∧ ready.plant.charge.state = .startUp) ∧
    (RunState.off ≠ .onLoad ∧ RunState.off ≠ .cooldown) := by decide +kernel

theorem witness_BufferLawsAreKept :
    ∃ s t, s = ready ∧ exec (.collect (req [])) s = .next t ∧ s.registerLaw ∧ queueLaw s.plant.queue ∧
      linksLaw s.plant.links ∧ s.plant.alarms.law ∧ (∃ x, s.plant.alarms.capture = some x) ∧
      (∀ q, Instr.collect (req []) ≠ .releaseCapture q) ∧ isCold (.collect (req [])) = false := by
  refine ⟨ready, _, rfl, rfl, ⟨by decide +kernel, by decide +kernel, ?_⟩, by decide +kernel,
    by decide +kernel, by decide +kernel, ⟨_, rfl⟩, nofun, rfl⟩
  refine ⟨by decide, by decide, by decide, by decide, by decide, by decide, by decide, ?_⟩
  intro x tag h
  cases h

theorem witness_PlantLawsAreKept :
    ∃ s t, s = ready ∧ exec .siteTimeAdvance s = .next t ∧ s.env.tables.wf = true ∧
      stringsLaw s.env s.plant.strings ∧ setpointLaw s.env.tables.profile s.plant.charge ∧
      trimLaw s.env.mode s.plant.charge ∧ s.plant.timerLaw ∧ s.plant.outputLaw ∧
      s.plant.gen.attemptLaw ∧ relayLaw s.env s.plant :=
  ⟨ready, _, rfl, rfl, by decide +kernel, by decide +kernel, by decide +kernel, by decide +kernel,
    by decide +kernel, by decide +kernel, by decide +kernel, by decide +kernel⟩

theorem witness_PlantLawsAreKept_setOutput :
    (⟨1, .setOutput 53520 500, 0, .gen⟩ : Order).body = .setOutput 53520 500 := rfl

theorem witness_DutyCollectionsAreKept :
    ∃ t, exec .siteTimeAdvance mixedAt = .next t ∧ mixedAt.plant.rect.law :=
  ⟨_, rfl, by decide +kernel⟩

/-! ### Witnesses of the clauses on hand-ons and units -/

/-- A state in which every interval count has reached a new interval of 24 hours, every interval having
been 48 hours before. -/
def dueAt (h : Nat) : State :=
  inTables (fun t => { t with
    plant := { t.plant with equalizeInterval := h, testInterval := h }
    rectifier := { t.rectifier with rotationInterval := h }
    genset := { t.genset with fitted := true, exerciseInterval := h } })
    (inPlant (fun p => { p with
      charge := { p.charge with equalizeCount := hours 24 }
      test := { p.test with count := hours 24 }
      rect := { p.rect with rotationCount := hours 24 }
      gen := { p.gen with exerciseCount := hours 24 } }) counting)

theorem witness_AnEntryIsWrittenWholeOrNotAtAll_blocks :
    ((dueAt 48).env.tables.plant.equalizeInterval ≠ (dueAt 24).env.tables.plant.equalizeInterval ∧
      (dueAt 24).plant.equalizeCounts (dueAt 24).env = true ∧
      hours 24 ≤ (dueAt 24).plant.charge.equalizeCount ∧
      (dueAt 24).plant.testCounts (dueAt 24).env = true ∧ hours 24 ≤ (dueAt 24).plant.test.count ∧
      (dueAt 24).plant.rect.rotationPending = false ∧ hours 24 ≤ (dueAt 24).plant.rect.rotationCount ∧
      (dueAt 24).plant.exerciseCounts (dueAt 24).env = true ∧
      hours 24 ≤ (dueAt 24).plant.gen.exerciseCount) ∧
    ((dueAt 24).env.tables.genset.fitted = true ∧ ready.env.tables.genset.fitted = false ∧
      (dueAt 24).plant.gen.runStart = some 0 ∧ ready.plant.gen.runStart = none) ∧
    ((point39 .active false).alarms.points[39].state = .active ∧
      (alarm39 fun x => { x with severity := .critical }).enabled 39 = true ∧
      (alarm39 fun x => { x with severity := .critical }).tables.alarms[39].severity = .critical ∧
      ¬ (ready.env.enabled 39 = true ∧ ready.env.tables.alarms[39].severity = .critical)) ∧
    ready.line.txn = none ∧ (busy pollTxn).line.txn ≠ none := by decide +kernel

theorem witness_StationMapEntriesAreChecked_change :
    (1 ≤ (30 : Station).val ∧ (30 : Station).val ≤ 30) ∧
    (ready.env.entry 30).role ≠ ((busy pollTxn).env.entry 30).role ∧
    (((busy pollTxn).env.entry 30).role = .rectifier ∧
      ((busy pollTxn).env.entry 30).unit = (0 : RectIx).val ∧ ((busy pollTxn).env.entry 30).mirror = true) ∧
    (ready.env.entry 30).mirror = false := by decide +kernel

theorem witness_RectifierCommands_rotation :
    (let s := inPlant (fun p => { p with
        charge := { p.charge with source := .mains }, gen := { p.gen with run := .off }
        rect := { mixed with walkIn := [], inFlight := none, rotationPending := true } }) mixedAt
     (s.plant.charge.state = .float ∧ s.env.mode = .auto ∧ s.plant.charge.source = .mains ∧
        s.plant.rect.walkIn = [] ∧ s.plant.gen.run = .off ∧ s.plant.rect.inFlight = none) ∧
      s.plant.rect.rotationPending = true ∧
      s.plant.rect.duty.filter (fun u => s.plant.rect.status u == .standby) = [1]) ∧
    (mixedAt.plant.rect.inFlight = some 2 ∧ (mixedAt.plant.rect.status 2).takesReports = true ∧
      mixedAt.plant.rect.duty = 0 :: [1, 2] ∧ (0 : RectIx) ≠ 2) ∧
    mixedAt.plant.rect.rotationPending = false := by decide +kernel

theorem witness_ModeCommands_rectifiers :
    (modeAt .manual ready).env.mode = .manual ∧
    (mixedAt.env.mode = .auto ∧ mixedAt.plant.charge.state ≠ .startUp) ∧
    (ready.env.mode = .auto ∧ ready.plant.charge.state = .startUp) ∧
    (mixedAt.plant.rect.status 1 = .standby ∧ mixedAt.plant.rect.status 0 = .active) := by decide +kernel

theorem witness_SetTimeAndRestart_due :
    (inRequest (fun r => { r with restartDue := true }) ready).request.restartDue = true := rfl

theorem witness_GuardAndClamp_share :
    (31 : Station).val = 31 ∧ (30 : Station).val ≠ 31 ∧
    ((entryAt 30 (by omega) .rectifier .clamp mixedAt).env.role 30 = .rectifier ∧
      ((entryAt 30 (by omega) .rectifier .clamp mixedAt).env.entry 30).unit = (0 : RectIx).val ∧
      mixedAt.plant.rect.records[0].report = some rectReport) ∧ ready.env.role 30 ≠ .rectifier := by
  decide +kernel

theorem witness_ReplyWindowRuns_retries :
    ready.env.tables.fieldTiming.orderRetries + 1 ≤ 256 ∧ 0 < ready.env.tables.fieldTiming.orderRetries + 1 ∧
    16 ≤ sixteenOrders.length ∧ ready.plant.queue.length < 16 ∧
    (∃ x ∈ sixteenOrders, x.station = 1 ∧ (OrderBody.setState false).sameType x.body = true) ∧
    ¬ ∃ x ∈ sixteenOrders, x.station = 30 ∧ (OrderBody.setState false).sameType x.body = true := by
  decide +kernel

theorem witness_QualifyingRepliesEndTheTransaction_units :
    ([mixed.status 0, mixed.status 1, mixed.status 2, mixed.status 3, mixed.status 4, mixed.status 5,
        mixed.status 6] = [.active, .standby, .walkingIn, .faulted, .lost, .lockedOut, .absent] ∧
      rectReport.fault = 0 ∧ ({ rectReport with fault := 7 } : RectReport).fault ≠ 0) ∧
    (mixed.inFlight = some 2 ∧ ¬ (true = true ∧ mixed.inFlight = some 0)) ∧
    (let s := genTimed .cranking fun g => { g with
        mainsMark := true, report := some (⟨.fault, false, 5, 0, 0⟩, 9), reasons := ⟨true, false, false, true, false⟩ }
     s.plant.gen.run = .cranking ∧ s.plant.gen.mainsMark = true ∧
      5 ≤ s.env.tables.genset.fuelCritical ∧ s.plant.gen.fuelCritical = false ∧
      s.plant.gen.reasons.exercise = true) ∧
    (let s := genTimed .warmup id
     s.plant.gen.warmupSecond ≠ .stopped ∧ s.plant.gen.run = .warmup) ∧
    (let s := genTimed .off id
     s.plant.charge.state ≠ .startUp ∧ s.env.mode = .auto ∧
      s.plant.gen.reasons = ⟨false, false, false, false, false⟩ ∧ s.plant.gen.dropped = none) ∧
    (let s := genTimed .stopping fun g => { g with dropped := some .stop }
     s.plant.gen.dropped = some .stop ∧ s.plant.gen.run = .stopping) ∧
    ({ pollTxn with voided := true }.qualifying (heard reportFrame) = some reportFrame) ∧
    ((busy pollTxn).env.rectOf 30 = some 0 ∧ ready.env.rectOf 30 = none) := by decide +kernel

theorem witness_OtherBusFramesAreDiscarded_rows :
    ∀ x, (busy pollTxn).line.txn = some x → x.qualifying ⟨[0xC3], false, 1010, 1010⟩ = none := by
  intro x h
  cases h
  decide +kernel

/-- A plant in a state whose string 0 reports at a temperature and a weakest SOC. -/
def hotPlant (x : PlantState) (source : Source) (t : Int) (soc : Nat) : Plant :=
  { State.reset.plant with
    charge := { State.reset.plant.charge with state := x, source := source }
    battery := { State.reset.plant.battery with weakestSoc := soc, iBat := -200 }
    strings := State.reset.plant.strings.set 0 { string0 with temperature := t, tempValid := true } }

theorem witness_ChargeTimersExpire_examination :
    ((∃ i : StringIx, (hotPlant .boost .mains 550 100).strings[i].status = .reporting ∧
        (hotPlant .boost .mains 550 100).strings[i].tempValid = true ∧
        ready.env.tables.profile.cutoffTemp ≤ (hotPlant .boost .mains 550 100).strings[i].temperature)) ∧
    (hotPlant .float .none 250 100).charge.source = .none ∧
    ((hotPlant .float .mains 250 0).charge.source ≠ .none ∧
      (hotPlant .float .mains 250 0).battery.weakestSoc ≤ 100 - ready.env.tables.profile.boostEntry ∧
      ¬ (hotPlant .float .mains 250 100).battery.weakestSoc ≤ 100 - ready.env.tables.profile.boostEntry) ∧
    ((hotPlant .equalize .mains 250 100).charge.state = .equalize ∧
      (hotPlant .discharge .none 250 100).charge.state = .discharge) ∧
    (¬ ready.env.hasInput .mainsSense = true ∧ floating.plant.charge.stateChanged = false ∧
      ({ floating.plant with charge := { floating.plant.charge with stateChanged := true } } : Plant).charge.stateChanged
        = true) := by decide +kernel

theorem witness_TestAndDisconnectTimersExpire_ends :
    (let p : Plant := { State.reset.plant with
        test := { State.reset.plant.test with outcome := .running }
        battery := { State.reset.plant.battery with busVoltage := some 42000 } }
     p.test.outcome = .running ∧ p.battery.busVoltage = some 42000) ∧
    State.reset.plant.test.outcome ≠ .running ∧
    ((ldAt .reconnectPending none .none).ld.state = .reconnectPending ∧
      (ldAt .reconnectPending none .none).charge.source = .none) ∧
    ((ldAt .reconnectPending (some 49000) .mains).ld.state = .reconnectPending ∧
      ready.env.tables.loadDisconnect.reconnectVoltage ≤ 49000 ∧
      ¬ 49000 ≤ ready.env.tables.loadDisconnect.disconnectVoltage) ∧
    ready.env.hasInput .ldFeedback = false := by decide +kernel

theorem witness_RectifierTimersExpire_sizing :
    (let s := inPlant (fun p => { p with charge := { p.charge with source := .mains } }) mixedAt
     let t := s.env.tables.rectifier
     s.plant.canOrder s.env = true ∧ s.plant.charge.state = .float ∧ s.plant.charge.source = .mains ∧
      s.plant.rect.duty.length ≠ 0 ∧ 0 < t.shareHigh ∧
      (∃ u ∈ s.plant.rect.duty, ∃ x ∈ s.plant.rect.records[u].report, x.rated = 500) ∧
      (∀ u ∈ s.plant.rect.duty, ∀ x ∈ s.plant.rect.records[u].report, 0 < x.rated ∧ 500 ≤ x.rated)) ∧
    (mixedAt.plant.canOrder (modeAt .manual ready).env = false ∧ mixedAt.plant.rect.inFlight ≠ none) ∧
    ((3 : RectIx) ∉ mixed.walkIn ∧ (∃ x : RectIx, mixed.status x = .active) ∧ mixed.walkIn ≠ [] ∧
      rectTimed.stagger.isRunning = true ∧ State.reset.plant.rect.walkIn = []) ∧
    (∀ x : RectIx, ready.plant.rect.status x ≠ .active) ∧
    (mixed.duty.filter (fun x => mixed.status x == .active || mixed.status x == .walkingIn)).length < 3 := by
  decide +kernel

/-- FLOAT without a source, a fitted set in OFF, at a bus voltage and a weakest SOC. -/
def starved (bus : Option Nat) (soc : Nat) : State :=
  inTables (fun t => { t with genset := { t.genset with fitted := true, startSoc := 30, stopSoc := 60 } })
    (inPlant (fun p => { p with
      battery := { p.battery with busVoltage := bus, weakestSoc := soc } }) (genTimed .off id))

theorem witness_GeneratorTimersExpire_reasons :
    (let s := starved (some 40000) 30
     s.plant.charge.state ≠ .startUp ∧ s.plant.gen.run ≠ .disabled ∧ s.plant.charge.source = .none ∧
      40000 ≤ s.env.tables.genset.startVoltage ∧ s.plant.battery.weakestSoc < s.env.tables.genset.stopSoc ∧
      s.plant.battery.weakestSoc ≤ s.env.tables.genset.startSoc ∧ s.env.tables.genset.startSoc ≠ 0 ∧
      s.plant.gen.reasons.lowVoltage = false ∧ s.plant.gen.status ≠ .reporting ∧
      s.env.tables.genset.fitted = true) ∧
    (starved none 60).env.tables.genset.stopSoc ≤ (starved none 60).plant.battery.weakestSoc ∧
    (let s := genTimed .cranking fun g => { g with
        mainsMark := true, attempts := 1, cycleLimit := 3, reasons := ⟨true, false, false, false, true⟩ }
     s.plant.gen.crank = .running 2000 3000 ∧ s.plant.gen.mainsMark = true ∧
      s.plant.gen.attempts < s.plant.gen.cycleLimit) ∧
    (let s := genTimed .failed fun g => { g with retryDue := true, reasons := ⟨false, true, false, false, false⟩ }
     s.plant.gen.run = .failed ∧ s.plant.gen.retryDue = true ∧
      s.plant.gen.reasons ≠ ⟨false, false, false, false, false⟩) ∧
    (let s := genTimed .cooldown fun g => { g with
        exerciseDue := true, fuelCritical := false, runStart := some 0 }
     s.plant.gen.exerciseDue = true ∧ s.plant.gen.fuelCritical = false ∧ s.plant.gen.run ≠ .lockedOut ∧
      s.plant.gen.runStart = some 0) ∧
    (RunState.failed = .failed ∧ ready.env.tables.genset.retryInterval ≠ 0) := by decide +kernel

theorem witness_ClockAndContactRows_writes :
    (let x : InputEntry := ready.env.tables.inputs[0]
     ({ x with function := .mainsSense } : InputEntry).function ≠ x.function ∧
      ({ x with activeOpen := !x.activeOpen } : InputEntry).activeOpen ≠ x.activeOpen ∧
      ({ x with edge := !x.edge } : InputEntry).edge ≠ x.edge ∧
      ({ x with interval := x.interval + 1 } : InputEntry).interval ≠ x.interval) := by decide +kernel

theorem witness_PointsMoveByTheirTable_momentary :
    ((point39 .idle false).alarms.points[39].state = .idle ∧
      (point39 .raising false).alarms.points[39].state = .raising) ∧
    ((point39 .held false).alarms.points[39].state = .held ∧
      (delayed 0 true).tables.alarms[39].latching = true ∧
      (point39 .held false).alarms.points[39].acked = false) ∧
    (delayed 3600 false).tables.alarms[39].clearDelay ≠ 0 ∧
    (∃ i : StringIx, (hotPlant .float .mains 250 50).strings[i].status = .reporting) ∧
    (∀ i : StringIx, State.reset.plant.strings[i].status ≠ .reporting) := by decide +kernel

theorem witness_ReportsAreIntegrated_changes :
    (let e := ready.env
     e.fitted 0 = true ∧ (StringsEntry.mk 0 92 5000 300).capacity ≠ e.tables.strings[0].capacity ∧
      e.tables.strings[0].capacity ≠ 0 ∧
      (200001 : Int) > (e.tables.strings[0].capacity : Int) * 1000 ∧
      -((e.tables.strings[0].capacity * 10 * e.tables.profile.overcharge : Nat) : Int) ≤
        (e.tables.strings[0].capacity : Int) * 1000) ∧
    (∀ u : RectIx, ¬ (State.reset.plant.rect.status u = .active ∧
      State.reset.plant.rect.records[u].report.isSome = true)) ∧
    (((indices 12).filter fun u => mixed.status u == .active).filterMap
      (fun u => mixed.records[u].report.map (·.voltage)) ≠ []) := by decide +kernel

theorem witness_ComposedLimitsStayWithinTheAllowance_deadband :
    (let p : Plant := { allowed with rect := { allowed.rect with
        records := allowed.rect.records.set 0 { rectOf .active with composed := some (53520, 500) } } }
     p.rect.status 0 = .active ∧ p.rect.records[0].report = some rectReport ∧
      p.rect.records[0].composed = some (53520, 500) ∧ p.rect.records[11].composed = none ∧
      p.rect.records[1].report = none) := by decide +kernel

theorem witness_RecordsHaveTheirSizes_fields :
    (mixedAt.plant.rect.records[0].report = some rectReport ∧ (0 : RectIx) ∈ mixedAt.plant.rect.duty ∧
      (3 : RectIx) ∉ mixedAt.plant.rect.duty ∧ State.reset.plant.rect.records[0].report = none) ∧
    (∃ r n, (genTimed .off fun g => { g with
      report := some (⟨.running, true, 50, 0, 7⟩, 9) }).plant.gen.report = some (r, n)) ∧
    ready.plant.gen.report = none ∧ (∃ c, ready.plant.alarms.capture = some c) ∧
    (∃ x y, ready.plant.alarms.history.head? = some x ∧ ready.plant.alarms.history.getLast? = some y) ∧
    ((39 : PointIx).val = 32 + (7 : InputIx).val ∧ (31 : PointIx).val < 32) ∧
    ready.line.mirrors[(30 : Station)] = none ∧ (255 : Nat) < 256 ^ 1 :=
  ⟨by decide +kernel, ⟨_, _, rfl⟩, rfl, ⟨_, rfl⟩, ⟨_, _, rfl, rfl⟩, by decide, rfl, by decide⟩

theorem witness_PlantLawsAreKept_image :
    (isCold .siteTimeAdvance = true → ready.store.imageLaw) ∧ State.reset.store.imageLaw := by
  refine ⟨nofun, ?_⟩
  intro t h
  cases h

/-! ### The clauses on hand-ons -/

theorem witness_EveryCommandAnswersANextState :
    ([] ++ [] : List Signal) = [] ∧ ([.recompute] ++ [.fuel] : List Signal) = .recompute :: [.fuel] ∧
    (ready.plant.timer .boost = .stopped ∧ (timed .boost).plant.timer .boost = .running 2000 3000) ∧
    (¬ 2000 + 3000 ≤ (timed .boost).env.now ∧ (timed .boost).env.now < 2000 + 3000 ∧
      2000 + 3000 ≤ ({ timed .boost with env := { (timed .boost).env with
        clock := ⟨5000, 5, false, 5000⟩ } } : State).env.now) := by decide +kernel

theorem witness_StatusReportsThenClears_fields :
    ∃ count : Severity → Nat, ∀ v, count v = (List.finRange 40).countP fun i =>
      decide (ready.env.enabled i = true ∧ ready.env.tables.alarms[i].severity = v ∧
        (ready.plant.alarms.points[i].state = .active ∨ ready.plant.alarms.points[i].state = .clearing ∨
          ready.plant.alarms.points[i].state = .held)) := ⟨_, fun _ => rfl⟩

theorem witness_AnEntryIsWrittenWholeOrNotAtAll_tests :
    (fieldsOk (TableId.profile.fieldsAt 0) [] = false ∧
      fieldsOk Profile.fields Profile.default.toInts = true) ∧
    (fieldsOk RectTable.fields RectTable.default.toInts = true ∧
      fieldsOk RectTable.fields ({ RectTable.default with shareLow := 90, shareHigh := 90 } : RectTable).toInts
        = true) ∧
    fieldsOk GensetTable.fields GensetTable.default.toInts = true ∧
    fieldsOk LdTable.fields LdTable.default.toInts = true ∧
    (fieldsOk PollSlot.fields (PollSlot.mk 30 .slow).toInts = true ∧ (PollSlot.mk 30 .slow).station ≠ 0) ∧
    (fieldsOk InputEntry.fields ({ InputEntry.default with function := .ldFeedback } : InputEntry).toInts
      = true ∧ 23 < 24 ∧ 7 < 8) := by decide +kernel

theorem witness_StationMapEntriesAreChecked_outside :
    ((-1 : Int) < 0 ∧ (2 : Int) < 3) ∧ ((31 : Nat) ≠ 32 ∧ (4 : Int) < 5 ∧ (1 : Int) < 2) := by decide

theorem witness_AlarmCommands_turns :
    (∃ q r, (point39 .active false).ackPoint ready.env 39 = (q, true) ∧
      Plant.ackPoints ready.env [38] q = (r, 0)) ∧
    ((point39 .active false).alarms.points[39].state = .active ∧
      (point39 .active false).alarms.points[39].acked = false) :=
  ⟨⟨_, _, rfl, rfl⟩, by decide +kernel⟩

theorem witness_PollSearchFindsTheFirstDueSlot_due :
    polling.plant.dueAt polling.env 0 0 ≠ none ∧ (23 : Fin 24).val < 24 ∧
    ready.plant.dueAt ready.env 7 23 = none := by decide +kernel

theorem witness_QualifyingRepliesEndTheTransaction_taken :
    ((ready.env.entry 30).role = .unused ∧ (ready.env.entry 30).mirror = false ∧
      (StationEntry.mk .foreign 0 .pass false).role = .foreign) ∧
    (let x := (busy pollTxn).env.entry 30
     x.role = .rectifier ∧ x.mirror = true ∧ x.unit = (0 : RectIx).val ∧ readRectReport [1] = none ∧
      readRectReport reportFrame.payload ≠ none) ∧
    (readStringReport [1] = none ∧ (StationEntry.mk .stringMonitor 3 .pass false).unit = (3 : StringIx).val) ∧
    readGensetReport [1] = none ∧
    ({ pollTxn with carried := .exchange 7 } : Txn).carried = .exchange 7 := by decide +kernel

theorem witness_QualifyingRepliesEndTheTransaction_poll : ∀ g, pollTxn.carried ≠ .exchange g := nofun

theorem witness_LinkRecordsFollowReplies_notices :
    ((link30 .lost 0 0).links[30].status = .lost ∧ (link30 .lost 0 0).links[30].status ≠ .reporting) ∧
    (mixed.status 5 = .lockedOut ∧ mixed.status 6 = .absent ∧ mixed.status 0 ≠ .lockedOut ∧
      mixed.status 0 ≠ .absent ∧ mixed.status 3 = .faulted ∧ mixed.status 4 = .lost ∧
      mixed.status 0 ≠ .faulted ∧ mixed.status 0 ≠ .lost) ∧
    (ready.env.tables.strings[0].capacity ≠ 0 ∧
      (inTables (fun t => { t with strings := t.strings.set 0 ⟨0, 92, 5000, 300⟩ }) ready).env.tables.strings[0].capacity
        = 0) ∧
    (UnitNotice.lost ≠ .discovering) := by decide +kernel

theorem witness_LinkRecordsFollowReplies_fieldBus :
    (∃ (b : Bool) (named : Station → Prop), (∀ st, named st ↔ st.val ≠ 0 ∧ st.val ≠ 31 ∧
        ready.env.role st ≠ .unused ∧ ∃ i : Fin 24, ready.env.tables.pollList[i].station = st.val) ∧
      (b = true ↔ (∃ st, named st) ∧ ∀ st, named st → ready.plant.links[st].status = .lost)) :=
  ⟨_, _, fun _ => Iff.rfl, decide_eq_true_iff⟩

theorem witness_TestAndDisconnectTimersExpire_scheduled :
    (let s := inPlant (fun p => { p with test := { p.test with pending := true } }) testable
     s.plant.test.pending = true ∧ s.plant.testMayStart s.env = true) ∧
    (ready.plant.test.pending = false ∧ ready.plant.testMayStart ready.env = false) := by decide +kernel

theorem witness_RectifierTimersExpire_unplaced :
    ready.env.rectStation 0 = none ∧ mixed.walkIn.filter (fun v => v != 2) = [] := by decide +kernel

theorem witness_ClockAndContactRows_accepted :
    (39 : PointIx).val = 32 + (7 : InputIx).val ∧
    (let x : InputEntry := { InputEntry.default with function := .mainsSense }
     let s := inTables (fun t => { t with inputs := t.inputs.set 7 x }) ready
     s.env.tables.inputs[7].function = .mainsSense ∧
      (∀ j : InputIx, s.env.tables.inputs[j].function = .mainsSense → j = 7)) ∧
    ready.env.hasInput .mainsSense = false ∧ InputEntry.default.edge = false := by decide +kernel

theorem witness_PointsMoveByTheirTable_handed :
    (let e := delayed 0 true
     let p : Plant := { State.reset.plant with alarms := { State.reset.plant.alarms with
       points := State.reset.plant.alarms.points.set 39 ⟨false, .idle, false, .stopped, none⟩ } }
     true ≠ p.alarms.points[39].condition ∧ p.alarms.points[39].state = .idle ∧
      e.tables.alarms[39].raiseDelay = 0) ∧
    (false ≠ (point39 .active true).alarms.points[39].condition ∧
      (point39 .active true).alarms.points[39].state = .active ∧
      (delayed 0 true).tables.alarms[39].clearDelay = 0 ∧
      (point39 .active true).alarms.points[39].acked = true ∧
      (delayed 0 false).tables.alarms[39].latching = false) := by decide +kernel

theorem witness_ReportsAreIntegrated_spread :
    (([] : List Nat).length < 2 ∧ ([2201] : List Nat).length < 2 ∧ 2 ≤ ([2201, 2236] : List Nat).length) ∧
    (ready.env.fitted 0 = true ∧ (inTables (fun t => { t with
      strings := t.strings.set 0 ⟨0, 92, 5000, 300⟩ }) ready).env.fitted 0 = false) ∧
    (string0.status = .reporting ∧ StringRec.absent.status ≠ .reporting) ∧
    (∃ lost imbalance estimated : Bool,
      (lost = true ↔ ∃ i : StringIx, ready.plant.strings[i].status = .lost) ∧
      (imbalance = true ↔ ∃ i : StringIx, ready.plant.strings[i].status = .reporting ∧
        ready.plant.strings[i].imbalance = true) ∧
      (estimated = true ↔ ∃ i : StringIx, ready.plant.strings[i].status = .reporting ∧
        ready.plant.strings[i].estimated = true)) :=
  ⟨by decide, by decide +kernel, by decide, _, _, _, decide_eq_true_iff, decide_eq_true_iff,
    decide_eq_true_iff⟩

theorem witness_AnEntryIsWrittenWholeOrNotAtAll_taken :
    [TableId.fieldTiming, .strings, .plant, .relays, .alarms, .supervision].all (fun id =>
      decide (0 < id.count) && fieldsOk (id.fieldsAt 0) (Tables.default.entry id 0)) = true := by decide +kernel

theorem witness_GuardAndClamp_shape :
    ([0x01] : List Byte).length ≠ 7 ∧ ([2, 0, 0, 0, 0, 0, 0] : List Byte).head? ≠ some 1 := by decide

theorem witness_PointsMoveByTheirTable_returns :
    ∀ x ∈ [PointState.clearing, .held],
      let p := (point39 x false).modifyPoint 39 fun y => { y with condition := false }
      p.alarms.points[39].condition = false ∧
        (p.alarms.points[39].state = .clearing ∨ p.alarms.points[39].state = .held) := by decide +kernel

/-- The READY state with its image saved, a test running and the temperature source in FALLBACK. -/
def resetting : State :=
  inPlant (fun p => { p with
    test := { p.test with outcome := .running }
    battery := { p.battery with tSource := .fallback } })
    { ready with store := ⟨.valid, Tables.default.image⟩ }

set_option maxRecDepth 100000 in
theorem witness_ResetsLeaveTheirState_image :
    (resetting.store.state ≠ .saving ∧ (loadImage resetting.store.image).isSome = true) ∧
    ¬ (ready.store.state ≠ .saving ∧ loadImage ready.store.image ≠ none) := by decide +kernel

theorem witness_ResetsLeaveTheirState_kept :
    (resetting.plant.test.outcome = .running ∧ ready.plant.test.outcome ≠ .running) ∧
    resetting.plant.battery.tSource = .fallback ∧ ready.plant.battery.tSource ≠ .fallback := by decide +kernel

/-- A test runs in TEST on mains with the run unit OFF. -/
def tested : State := inPlant (fun p => { p with
  charge := { p.charge with state := .test }, test := { p.test with outcome := .running } }) testable

theorem witness_PlantLawsAreKept_test :
    ∃ t, exec .siteTimeAdvance tested = .next t ∧ tested.plant.charge.state = .test ∧
      tested.plant.agenda = [] ∧ t.plant.agenda = [] ∧ tested.plant.testLaw :=
  ⟨_, rfl, by decide +kernel, by decide +kernel, by decide +kernel, by decide +kernel⟩

/-- FLOAT in AUTO with target 2 met, no rotation, an allowance of 100 A, and 50 A composed for rectifier 0. -/
def shared : State :=
  inGen (fun g => { g with allowance := some 1000 }) (inRect (fun r => { r with
    target := 2, inFlight := none
    records := r.records.set 0 { r.records[0] with composed := some (53520, 500) } }) mixedAt)

theorem witness_DutyCollectionsAreKept_floor :
    ∃ t, exec .siteTimeAdvance shared = .next t ∧ shared.plant.agenda = [] ∧ t.plant.agenda = [] ∧
      shared.plant.canOrder shared.env = true ∧ shared.plant.rect.law ∧
      shared.plant.floorLaw shared.env ∧ t.env.mode = .auto ∧ t.plant.charge.state ≠ .startUp :=
  ⟨_, rfl, by decide +kernel, by decide +kernel, by decide +kernel, by decide +kernel, by decide +kernel,
    by decide +kernel, by decide +kernel⟩

theorem witness_DutyCollectionsAreKept_sum :
    shared.plant.composedLaw shared.env ∧ shared.plant.gen.allowance = some 1000 := by
  have h : ∀ u : RectIx, shared.plant.rect.records[u].composed = none ∨
      shared.plant.rect.records[u].composed = some (53520, 500) := by decide +kernel
  have share : 500 ≤ 1000 / shared.plant.activeCount := by decide +kernel
  refine ⟨⟨by decide +kernel, fun a ha u v l _ hc => ?_⟩, rfl⟩
  cases ha
  rcases h u with h | h <;> rw [h] at hc <;> cases hc
  exact share

/-- 10 R192: a notice of point 5, TRANSIENT, MAJOR, at site time 1,500 with the time set, a valid bus voltage of
53,520 mV, in FLOAT. -/
theorem test_notice_bytes :
    (Notice.mk 5 .transient .major ⟨1500, true⟩ (some 53520) .float).bytes =
      [5, 2, 2, 0, 0, 0x05, 0xDC, 3, 0, 0, 0xD1, 0x10, 1] := by decide +kernel

theorem witness_EveryTakenRequestIsAnswered_known :
    ((1 : Byte).toNat ≠ 0 ∧ (9 : Byte).toNat ≤ 9 ∧ (9 : Byte) ≠ 0x03 ∧ (9 : Byte) ≠ 0x07) ∧
    (1 : Byte).toNat ≠ 0 ∧ (0x13 : Byte).toNat ≤ 0x13 ∧ (11 : Byte).toNat ≤ 11 := by decide +kernel

/-- The default profile with bus limits. -/
def limited (low high : Nat) : Env := { ready.env with tables := { ready.env.tables with
  profile := { ready.env.tables.profile with busMin := low, busMax := high } } }

/-- A battery at 25.0 °C. -/
def cool : Plant := { floating.plant with battery := { floating.plant.battery with tComp := 250 } }

/-- 05, the worked example of an outage: a battery at 25.0 °C in BOOST, 56,400 mV, and limits at, above and
below it. -/
theorem witness_ChargeTimersExpire_setpoint :
    (let q := cool.changePlant (limited 48000 58000) .boost
     48000 ≤ q.charge.base ∧ q.charge.base ≤ 58000 ∧ q.charge.setpoint = q.charge.base) ∧
    (let q := cool.changePlant (limited 56400 56400) .boost
     q.charge.base = 56400 ∧ q.charge.setpoint = 56400) ∧
    (cool.changePlant (limited 57000 58000) .boost).charge.base ≤ 57000 ∧
    56000 ≤ (cool.changePlant (limited 48000 56000) .boost).charge.base ∧
    tested.plant.charge.overTemp = false ∧ tested.plant.test.outcome = .running := by decide +kernel

theorem witness_ModeCommands_setpoint :
    (tested.plant.charge.state = .test ∧ tested.plant.test.outcome = .running) ∧
    (tested.toManual.plant.agenda.length = 12 ∧ tested.toAuto.plant.agenda.length = 5) ∧
    (inLine (fun l => { l with txn := some pollTxn }) ready).line.txn = some pollTxn ∧
    ready.line.txn = none := by decide +kernel

theorem witness_GeneratorTimersExpire_runTime :
    (let g := (genTimed .onLoad fun g => { g with loaded := true, runStart := some 1000 }).plant.gen
     g.loaded = true ∧ g.runStart = some 1000) ∧
    (genTimed .warmup id).plant.gen.loaded = false := by decide +kernel

theorem witness_ReportsAreIntegrated_testVoltage :
    tested.plant.charge.state = .test ∧ tested.plant.test.outcome = .running ∧
      (tested.plant.workSetpoint tested.env).test.voltage = 46800 := by decide +kernel

/-- A fitted set in contact-only WARMUP with no rectifier's ac_ok, and input 3 one sample short of ACTIVE. -/
def nearChange : State :=
  let s := inTables (fun t => { t with genset := { t.genset with fitted := true } })
    (inGen (fun g => { g with run := .warmup, reasons := { g.reasons with manual := true } }) floating)
  { s with env := { s.env with inputs := s.env.inputs.set 3 { s.env.inputs[3] with
      streakLevel := true, streakCount := 2 } } }

/-- 08 R173: the accepted change of an UNUSED input works out the indication: the stopped engine is a failure. -/
theorem test_unused_input_indicates :
    (match exec (.inputSample 3 true) nearChange with
      | .next t => t.env.inputs[3].accepted && t.plant.gen.run == .failed
      | _ => false) = true := by decide +kernel

/-- Rectifiers 0, ACTIVE, and 1, STANDBY, at stations 1 and 2, as a sizing step falls due with no source. -/
def stepDue : State :=
  inTables (fun t => { t with stationMap :=
      (t.stationMap.set 1 ⟨.rectifier, 0, .clamp, true⟩).set 2 ⟨.rectifier, 1, .clamp, true⟩ })
    (inPlant (fun p => { p with links :=
        (p.links.set 1 ⟨.reporting, 0, 0, none⟩).set 2 ⟨.reporting, 0, 0, none⟩ })
      (inRect (fun r => { r with
        sizing := .running 2000 3000, inFlight := none, walkIn := [], duty := [0, 1] }) mixedAt))

/-- 07 R142: the target is applied, with its SET_OUTPUT orders, and the reconciliation follows. -/
theorem test_reconciliation_follows :
    (match exec .sizingTimerExpiry stepDue with
      | .next t => t.plant.queue.map fun o => (o.station.val, o.body.isSetOutput)
      | _ => []) = [(2, false), (1, true), (2, true), (1, false)] := by decide +kernel

end Sys2Proof.Tests
end

section
/-! PROOFS. Charge control (05): the commands of the charge controller and of the battery test, the interval
counts and run times at their limits, the setpoint and the trim. -/

namespace Sys2Proof.Machine.ChargeControl

/-! ### Commands that a block accepts or refuses -/

/-- A command without parameters, taken: its body is carried out in the state that has heard the request, and
the answer's content begins with the subcode (03 R48). -/
theorem State.plainCommand_taken {sub : Byte} {q : Req} {s : State} (ht : s.takes q) (hq : q.params = [sub])
    (body : State → Done) :
    s.plainCommand sub body q = (body (s.taken 0x07 q)).state.answered 0x07 q
      (body (s.taken 0x07 q)).status (sub :: (body (s.taken 0x07 q)).content) := by
  obtain ⟨hport, hsource⟩ := ht
  simp only [State.plainCommand, State.commandOf, hq, if_true, State.requestOf,
    State.takeRequest_taken _ _ _ _ _ hport hsource]
  rfl

/-- A command that its block accepts leaves the plant that the block gives, and is answered OK (03 R48). -/
theorem State.plantCommand_accepted {sub : Byte} {act : Env → Plant → Option Plant} {q : Req} {s : State}
    {p : Plant} (ht : s.takes q) (hq : q.params = [sub])
    (hact : act (s.taken 0x07 q).env (s.taken 0x07 q).plant = some p) :
    s.plantCommand sub act q = ((s.taken 0x07 q).withPlant p).answered 0x07 q .ok [sub] := by
  rw [State.plantCommand, State.plainCommand_taken ht hq]
  simp only [hact, State.withPlant]

/-- A command that its block refuses changes nothing, and is answered REFUSED_STATE (03 R48). -/
theorem State.plantCommand_refused {sub : Byte} {act : Env → Plant → Option Plant} {q : Req} {s : State}
    (ht : s.takes q) (hq : q.params = [sub])
    (hact : act (s.taken 0x07 q).env (s.taken 0x07 q).plant = none) :
    s.plantCommand sub act q = (s.taken 0x07 q).answered 0x07 q .refusedState [sub] := by
  rw [State.plantCommand, State.plainCommand_taken ht hq]
  simp only [hact, State.refuse]

/-! ### FORCE_BOOST, START_EQUALIZE, STOP_TEST -/

theorem Plant.forceBoost_of_float (e : Env) {p : Plant} (hs : p.charge.state = .float)
    (ho : p.charge.overTemp = false) : p.forceBoost e = some (p.changePlant e .boost) := by
  simp [Plant.forceBoost, hs, ho]

theorem Plant.forceBoost_eq_none (e : Env) {p : Plant}
    (h : p.charge.state ≠ .float ∨ p.charge.overTemp = true) : p.forceBoost e = none := by
  rcases h with h | h <;> simp [Plant.forceBoost, h]

theorem Plant.startEqualize_of_float (e : Env) {p : Plant} (hs : p.charge.state = .float)
    (ho : p.charge.overTemp = false) :
    p.startEqualize e =
      some (({ p with charge := { p.charge with equalizePending := true } }).post [.examine]) := by
  simp [Plant.startEqualize, hs, ho]

theorem Plant.startEqualize_eq_none (e : Env) {p : Plant}
    (h : p.charge.state ≠ .float ∨ p.charge.overTemp = true) : p.startEqualize e = none := by
  rcases h with h | h <;> simp [Plant.startEqualize, h]

theorem Plant.stopTest_of_test (e : Env) {p : Plant} (hs : p.charge.state = .test) :
    p.stopTest e = some (p.testEnd e .abortedCommand) := by
  simp [Plant.stopTest, hs]

theorem Plant.stopTest_of_pending (e : Env) {p : Plant} (hs : p.charge.state ≠ .test)
    (hp : p.test.pending = true) :
    p.stopTest e = some { p with test := { p.test with pending := false, count := 0 } } := by
  simp [Plant.stopTest, hs, hp]

theorem Plant.stopTest_eq_none (e : Env) {p : Plant} (hs : p.charge.state ≠ .test)
    (hp : p.test.pending = false) : p.stopTest e = none := by
  simp [Plant.stopTest, hs, hp]

theorem exec_forceBoost (q : Req) (s : State) :
    exec (.forceBoost q) s = .next (s.plantCommand 0x01 Plant.forceBoost q) := rfl

theorem exec_startEqualize (q : Req) (s : State) :
    exec (.startEqualize q) s = .next (s.plantCommand 0x02 Plant.startEqualize q) := rfl

theorem exec_stopTest (q : Req) (s : State) :
    exec (.stopTest q) s = .next (s.plantCommand 0x04 Plant.stopTest q) := rfl

/-- Settles O24: the block's condition decides the answer, in FLOAT by over-temperature. -/
theorem forceBoostEntersBoost : Obligations.ForceBoostEntersBoost := by
  rintro q s _ ht hq rfl
  simp only [exec_forceBoost]
  refine ⟨fun hs ho => ?_, fun _ ho => ?_, fun hs => ?_⟩
  · rw [State.plantCommand_accepted ht hq (Plant.forceBoost_of_float _ hs ho)]
  · rw [State.plantCommand_refused ht hq (Plant.forceBoost_eq_none _ (.inr ho))]
  · rw [State.plantCommand_refused ht hq (Plant.forceBoost_eq_none _ (.inl hs))]

/-- Settles O27: START_EQUALIZE by the plant state and over-temperature, STOP_TEST by the plant state and
the pending test. -/
theorem startEqualizeAndStopTest : Obligations.StartEqualizeAndStopTest := by
  rintro q s _ ht rfl
  simp only [exec_startEqualize, exec_stopTest]
  refine ⟨fun hq => ⟨fun hs ho => ?_, fun h => ?_⟩,
    fun hq => ⟨fun hs => ?_, fun hs hp => ?_, fun hs hp => ?_⟩⟩
  · rw [State.plantCommand_accepted ht hq (Plant.startEqualize_of_float _ hs ho)]
  · rw [State.plantCommand_refused ht hq (Plant.startEqualize_eq_none _ h)]
  · rw [State.plantCommand_accepted ht hq (Plant.stopTest_of_test _ hs)]
  · rw [State.plantCommand_accepted ht hq (Plant.stopTest_of_pending _ hs hp)]
  · rw [State.plantCommand_refused ht hq (Plant.stopTest_eq_none _ hs hp)]

/-! ### Counts at their limits -/

/-- A count that runs ends after what is left of its interval. -/
theorem State.countEnds_of_counts {c : Bool} (hc : c = true) (k n : Nat) (act : Env → Plant → Plant)
    (s : State) : s.countEnds c k n act = ((s.advance (n - k)).onPlant act).finish := by
  subst hc; rfl

/-- A run time that runs reaches its limit that long after the run began. -/
theorem State.runReaches_of_running {t : Nat} {s : State} (h : s.plant.gen.runStart = some t) (limit : Nat)
    (act : Plant → Plant) :
    s.runReaches limit act = ((s.bringTo (t + limit)).onPlant fun _ p => act p).finish := by
  simp only [State.runReaches, h]

/-! ### Run minutes -/

/-- A record's run minutes count while it is ACTIVE and reports ac_ok (07 R154). -/
theorem RectRec.runs_iff (x : RectRec) :
    x.runs = true ↔ x.status = .active ∧ ∃ r, x.report = some r ∧ r.acOk = true := by
  cases hr : x.report <;> simp [RectRec.runs, hr]

/-- A record after a time: its running time has grown when it runs, and nothing else has. -/
theorem Plant.elapse_record (e : Env) (dt : Nat) (p : Plant) (u : RectIx) :
    (p.elapse e dt).rect.records[u] =
      { p.rect.records[u] with
        carry := p.rect.records[u].carry + if p.rect.records[u].runs then dt else 0 } := by
  simp [Plant.elapse]

/-- A running time of exactly a minute becomes a run minute (07 R154). -/
theorem RectRec.minute_of_full {x : RectRec} (h : x.carry = 60000) :
    x.minute = { x with carry := 0, minutes := min (x.minutes + 1) 4294967295 } := by
  simp [RectRec.minute, h]

theorem exec_runMinute {u : RectIx} {s : State} (h : s.plant.rect.records[u].runs = true) :
    exec (.runMinute u) s =
      .next ((s.advance (60000 - s.plant.rect.records[u].carry)).onPlant
        fun _ p => p.modifyRect u RectRec.minute) := by
  simp only [exec, execRunMinute, if_pos h]

/-- The record whose running time is brought to a full minute. -/
theorem State.minute_record {u : RectIx} {s : State} (h : s.plant.rect.records[u].runs = true)
    (hc : s.plant.rect.records[u].carry ≤ 60000) :
    (s.advance (60000 - s.plant.rect.records[u].carry)).plant.rect.records[u].minute =
      { s.plant.rect.records[u] with
        carry := 0, minutes := min (s.plant.rect.records[u].minutes + 1) 4294967295 } := by
  rw [State.advance_plant, Plant.elapse_record, if_pos h,
    RectRec.minute_of_full (Nat.add_sub_cancel' hc)]

/-! ### When each count runs -/

theorem Plant.equalizeCounts_iff (e : Env) (p : Plant) :
    p.equalizeCounts e = true ↔ e.tables.plant.equalizeInterval ≠ 0 ∧
      p.charge.equalizePending = false ∧ p.charge.state ≠ .equalize := by
  simp [Plant.equalizeCounts, and_assoc]

theorem Plant.testCounts_iff (e : Env) (p : Plant) :
    p.testCounts e = true ↔ e.tables.plant.testInterval ≠ 0 ∧ p.test.pending = false := by
  simp [Plant.testCounts]

theorem Plant.rotationQuiet_iff (e : Env) (p : Plant) :
    p.rotationQuiet e = true ↔ p.charge.state = .float ∧ e.mode = .auto ∧ p.charge.source = .mains ∧
      p.rect.walkIn = [] ∧ p.gen.run = .off ∧ p.rect.inFlight = none := by
  simp [Plant.rotationQuiet, and_assoc]

theorem Plant.rotationCounts_iff (e : Env) (p : Plant) :
    p.rotationCounts e = true ↔ e.tables.rectifier.rotationInterval ≠ 0 ∧
      p.rect.rotationPending = false ∧ p.charge.state = .float ∧ e.mode = .auto ∧
      p.charge.source = .mains ∧ p.rect.walkIn = [] ∧ p.gen.run = .off ∧ p.rect.inFlight = none := by
  rw [← Plant.rotationQuiet_iff e p]
  simp [Plant.rotationCounts, and_left_comm, and_comm]

theorem Plant.exerciseCounts_iff (e : Env) (p : Plant) :
    p.exerciseCounts e = true ↔ e.tables.genset.fitted = true ∧
      e.tables.genset.exerciseInterval ≠ 0 ∧ p.gen.exerciseDue = false := by
  simp [Plant.exerciseCounts, and_assoc]

/-- Settles O49: each row by what its count or run time does when it runs, then the conditions under which
each count runs. -/
theorem countsReachTheirLimits : Obligations.CountsReachTheirLimits := by
  refine ⟨fun s u => ⟨?equalize, ?test, ?rotation, ?exercise, ?run, ?minute⟩, fun e p =>
    ⟨Plant.equalizeCounts_iff e p, Plant.testCounts_iff e p, Plant.rotationCounts_iff e p,
      Plant.exerciseCounts_iff e p⟩⟩
  case equalize => rintro h rfl; exact congrArg _ (State.countEnds_of_counts h ..)
  case test => rintro h rfl; exact congrArg _ (State.countEnds_of_counts h ..)
  case rotation => rintro h rfl; exact congrArg _ (State.countEnds_of_counts h ..)
  case exercise => rintro h rfl; exact congrArg _ (State.countEnds_of_counts h ..)
  case run =>
    intro t h
    constructor <;> (rintro rfl; exact congrArg _ (State.runReaches_of_running h ..))
  case minute =>
    rintro x hactive hreport hcarry rfl
    have hruns : s.plant.rect.records[x].runs = true := (RectRec.runs_iff _).mpr ⟨hactive, hreport⟩
    refine ⟨_, exec_runMinute hruns, rfl, ?_, fun y hy => ?_, rfl, rfl⟩
    · simp [-Fin.getElem_fin, -State.advance_plant, State.minute_record hruns hcarry]
    · simp [-Fin.getElem_fin, hy]

/-! ### The setpoint -/

/-- A division rounded once to the nearest, a half up, misses by at most a half (05 R110). -/
theorem round_thousandth (v : Int) :
    (v + 500) / 1000 * 1000 - 500 ≤ v ∧ v < (v + 500) / 1000 * 1000 + 500 := by
  omega

theorem Profile.clampBus_low {x : Profile} {v : Int} (hx : x.busMin ≤ x.busMax) (h : v ≤ x.busMin) :
    x.clampBus v = x.busMin := by
  rw [Profile.clampBus]; omega

theorem Profile.clampBus_inside {x : Profile} {v : Int} (hl : (x.busMin : Int) ≤ v) (hh : v ≤ x.busMax) :
    (x.clampBus v : Int) = v := by
  rw [Profile.clampBus]; omega

theorem Profile.clampBus_high {x : Profile} {v : Int} (hx : x.busMin ≤ x.busMax)
    (h : (x.busMax : Int) ≤ v) : x.clampBus v = x.busMax := by
  rw [Profile.clampBus]; omega

/-! ### The trim -/

section Trim
variable (t : PlantTable) (iLim : Nat) (iChg trim : Int)

/-- Above the charge limit the trim falls by the step down, to its lowest at most (05 R111). -/
theorem trimAfter_above (h : (iLim : Int) < iChg) :
    trimAfter t iLim iChg trim =
      max (max trim (-(t.trimMax : Int)) - t.trimDown) (-(t.trimMax : Int)) := if_pos h

/-- Below nine tenths of the charge limit the trim rises by the step up, to 0 at most (05 R111). -/
theorem trimAfter_below (h : iChg < ((iLim * 90 / 100 : Nat) : Int)) :
    trimAfter t iLim iChg trim = min (max trim (-(t.trimMax : Int)) + t.trimUp) 0 := by
  have hlow : ¬ (iLim : Int) < iChg := by omega
  simp only [trimAfter, if_neg hlow, if_pos h]

/-- Between the two the trim stays, but for its lowest value in force (05 R111). -/
theorem trimAfter_between (hl : ((iLim * 90 / 100 : Nat) : Int) ≤ iChg) (hh : iChg ≤ iLim) :
    trimAfter t iLim iChg trim = max trim (-(t.trimMax : Int)) := by
  simp only [trimAfter, if_neg (Int.not_lt.mpr hl), if_neg (Int.not_lt.mpr hh)]

end Trim

/-- A step is taken in AUTO, in FLOAT, BOOST and EQUALIZE (05 R111). -/
theorem trims_iff (m : Mode) (s : PlantState) :
    trims m s = true ↔ m = .auto ∧ (s = .float ∨ s = .boost ∨ s = .equalize) := by
  simp [trims, or_assoc]

theorem Plant.trimStep_trim {e : Env} {p : Plant} (h : trims e.mode p.charge.state = true) :
    (p.trimStep e).charge.trim =
      trimAfter e.tables.plant p.charge.iLim p.battery.iChg p.charge.trim := by
  simp only [Plant.trimStep, if_pos h]

theorem Plant.trimStep_eq_self {e : Env} {p : Plant} (h : trims e.mode p.charge.state = false) :
    p.trimStep e = p := by
  simp [Plant.trimStep, h]

/-- Settles O55: the setpoint stage by stage, the base by the rounding and the setpoint by the bus clamp;
then the trim step by the three places of the charge current. -/
theorem theSetpointIsWorkedOut : Obligations.TheSetpointIsWorkedOut := by
  refine ⟨?setpoint, fun e p low trim after hlow htrim hafter =>
    ⟨fun hmode hstate => ?step, fun h => ?none⟩⟩
  case setpoint =>
    rintro e p _ _ _ t comp v rfl rfl rfl hbus hv ht hcomp
    have hv : v = e.tables.profile.cellVoltage p.charge.state := hv.trans (by cases p.charge.state <;> rfl)
    have ht : e.tables.profile.usedTemp p.charge.overTemp p.battery.tComp = t := ht.symm
    have hcomp : e.tables.profile.compensation p.charge.state t = comp := by
      simp [hcomp, Profile.compensation]
    have hbase : (p.workSetpoint e).charge.base =
        (e.tables.profile.cells * (v * 1000 + comp) + 500) / 1000 := by
      subst hv hcomp ht; rfl
    refine ⟨ht, ?_, ?_, Profile.clampBus_low hbus, Profile.clampBus_inside,
      Profile.clampBus_high hbus, rfl, rfl⟩
    · subst hcomp ht; rfl
    · rw [hbase]; exact round_thousandth _
  case step =>
    have h := (trims_iff e.mode p.charge.state).mpr ⟨hmode, hstate⟩
    rw [hafter, Plant.trimStep_trim h, htrim, hlow]
    exact ⟨trimAfter_above _ _ _ _, trimAfter_below _ _ _ _, trimAfter_between _ _ _ _⟩
  case none =>
    refine Plant.trimStep_eq_self (Bool.eq_false_iff.mpr fun ht => ?_)
    obtain ⟨hmode, hstate⟩ := (trims_iff _ _).mp ht
    rcases h with h | h | h | h <;> simp [h] at hmode hstate

end Sys2Proof.Machine.ChargeControl
end

section
/-! PROOFS. Battery test and load disconnect (06): START_TEST and the beginning of a test, how a test ends, and
the expiries, the examinations, the feedback and the conditions of load disconnect. -/

namespace Sys2Proof.Machine.BatteryTest
open Sys2Proof.Machine.ChargeControl

/-! ### The conditions that the unit reads -/

theorem busIs_iff (v : Option Nat) (test : Nat → Bool) :
    busIs v test = true ↔ ∃ x, v = some x ∧ test x = true := by
  cases v <;> simp [busIs]

/-- A point is enabled by its entry or because it is non-maskable (10 R185). -/
theorem Env.critical_iff (e : Env) (i : PointIx) :
    e.critical i = true ↔
      (e.tables.alarms[i].enable = true ∨ i.val = 0 ∨ i.val = 3 ∨ i.val = 12) ∧
        e.tables.alarms[i].severity = .critical := by
  simp [Env.critical, Env.enabled, Env.alarm, nonMaskable, or_assoc]

theorem Plant.criticalActive_eq_false_iff (e : Env) (p : Plant) :
    p.criticalActive e = false ↔ ∀ i : PointIx, e.critical i = true → p.alarms.points[i].state ≠ .active := by
  simp [Plant.criticalActive]

theorem Plant.mem_reportingStrings (p : Plant) (i : StringIx) :
    i ∈ p.reportingStrings ↔ p.strings[i].status = .reporting := by
  simp [Plant.reportingStrings]

/-- Some string reports. -/
theorem Plant.reportingStrings_isEmpty_eq_false_iff (p : Plant) :
    p.reportingStrings.isEmpty = false ↔ ∃ i : StringIx, p.strings[i].status = .reporting := by
  simp only [List.isEmpty_eq_false_iff_exists_mem, Plant.mem_reportingStrings]

/-- The start conditions of a test, one by one (06 R116). -/
theorem Plant.testMayStart_iff (e : Env) (p : Plant) :
    p.testMayStart e = true ↔
      p.charge.state = .float ∧ e.mode = .auto ∧ p.charge.source = .mains ∧ p.gen.run = .off ∧
      (∃ i : StringIx, p.strings[i].status = .reporting) ∧
      (∀ i : StringIx, p.strings[i].status = .reporting → p.strings[i].estimated = false) ∧
      e.tables.plant.testMinSoc ≤ p.battery.weakestSoc ∧
      (∀ i : PointIx, (e.tables.alarms[i].enable = true ∨ i.val = 0 ∨ i.val = 3 ∨ i.val = 12) →
        e.tables.alarms[i].severity = .critical → p.alarms.points[i].state ≠ .active) ∧
      p.ld.state = .connected := by
  simp only [Plant.testMayStart, Bool.and_eq_true, beq_iff_eq, Bool.not_eq_true', List.all_eq_true,
    decide_eq_true_eq, Plant.reportingStrings_isEmpty_eq_false_iff, Plant.mem_reportingStrings,
    Plant.criticalActive_eq_false_iff, Env.critical_iff, and_imp, and_assoc]

/-- The voltage condition (06 R127). -/
theorem Plant.voltageLow_iff (e : Env) (p : Plant) :
    p.voltageLow e = true ↔
      ∃ v, p.battery.busVoltage = some v ∧ v ≤ e.tables.loadDisconnect.disconnectVoltage := by
  simp only [Plant.voltageLow, busIs_iff, decide_eq_true_eq]

/-- No generator start is under way (06 R127). -/
theorem RunState.starting_eq_false_iff (r : RunState) :
    r.starting = false ↔ r ≠ .cranking ∧ r ≠ .rest ∧ r ≠ .warmup := by
  cases r <;> simp [RunState.starting]

/-- The SOC condition (06 R127). -/
theorem Plant.socLow_iff (e : Env) (p : Plant) :
    p.socLow e = true ↔
      e.tables.loadDisconnect.disconnectSoc ≠ 0 ∧ p.charge.state = .discharge ∧
        p.battery.weakestSoc ≤ e.tables.loadDisconnect.disconnectSoc ∧
        p.gen.run ≠ .cranking ∧ p.gen.run ≠ .rest ∧ p.gen.run ≠ .warmup := by
  simp only [Plant.socLow, Bool.and_eq_true, bne_iff_ne, beq_iff_eq, decide_eq_true_eq,
    Bool.not_eq_true', RunState.starting_eq_false_iff, and_assoc]

/-- The reconnect condition (06 R128). -/
theorem Plant.mayReconnect_iff (e : Env) (p : Plant) :
    p.mayReconnect e = true ↔
      ∃ v, p.battery.busVoltage = some v ∧ e.tables.loadDisconnect.reconnectVoltage ≤ v ∧
        p.charge.source ≠ .none := by
  simp only [Plant.mayReconnect, Bool.and_eq_true, busIs_iff, decide_eq_true_eq, bne_iff_ne,
    ← and_assoc, exists_and_right]

/-- With a source, the reconnect condition is the voltage's alone (06 R128). -/
theorem Plant.mayReconnect_iff_of_source (e : Env) {p : Plant} (h : p.charge.source ≠ .none) :
    p.mayReconnect e = true ↔
      ∃ v, p.battery.busVoltage = some v ∧ e.tables.loadDisconnect.reconnectVoltage ≤ v := by
  simp only [Plant.mayReconnect_iff, h, ne_eq, not_false_eq_true, and_true]

/-! ### The beginning of a test -/

@[simp] theorem Charge.enter_state (x : Profile) (t : PlantTable) (now : Nat) (s : PlantState) (c : Charge) :
    (c.enter x t now s).state = c.state := by
  cases s <;> rfl

@[simp] theorem Charge.setpointFrom_state (x : Profile) (tComp : Int) (c : Charge) :
    (c.setpointFrom x tComp).state = c.state := rfl

theorem Plant.changePlant_state (e : Env) (x : PlantState) (p : Plant) :
    (p.changePlant e x).charge.state = x := by
  simp [Plant.changePlant, Plant.postIf_eq]

/-- A change of plant state changes of the test its voltage alone, which a running test takes from the
setpoint that TEST gives (06 R119, R121). -/
theorem Plant.changePlant_test (e : Env) (x : PlantState) (p : Plant) :
    (p.changePlant e x).test =
      if x = .test ∧ p.test.outcome = .running then
        { p.test with voltage := (p.changePlant e x).charge.setpoint }
      else p.test := by
  simp [Plant.changePlant, Plant.postIf_eq, Plant.storeSetpoint]

/-- A test's record at its beginning (06 R119). -/
theorem Plant.testBegin_test (e : Env) (cause : TestCause) (p : Plant) :
    (p.testBegin e cause).test = { p.test with
      outcome := .running, cause := cause, stamp := e.stamp, started := e.now, seconds := 0
      removed := 0, minBus := p.battery.busVoltage, failed := false, pending := false, count := 0
      threshold := e.tables.profile.failThreshold
      duration := .running e.now (minutes e.tables.plant.testDuration)
      voltage := (p.testBegin e cause).charge.setpoint } := by
  simp [Plant.testBegin, Plant.changePlant_test]

theorem Plant.testBegin_state (e : Env) (cause : TestCause) (p : Plant) :
    (p.testBegin e cause).charge.state = .test := Plant.changePlant_state ..

theorem Plant.startTest_of_mayStart {e : Env} {p : Plant} (h : p.testMayStart e = true) :
    p.startTest e = some (p.testBegin e .command) := if_pos h

theorem Plant.startTest_eq_none {e : Env} {p : Plant} (h : p.testMayStart e = false) :
    p.startTest e = none := by
  simp [Plant.startTest, h]

theorem exec_startTest (q : Req) (s : State) :
    exec (.startTest q) s = .next (s.plantCommand 0x03 Plant.startTest q) := rfl

/-- Settles O25: the record that the beginning leaves, the answer by the start conditions, and these one by
one. -/
theorem startTestNeedsItsConditions : Obligations.StartTestNeedsItsConditions := by
  refine ⟨fun e cause p => rfl, fun e cause p => ⟨?_, ?_, Plant.testBegin_state e cause p⟩,
    ?command, Plant.testMayStart_iff⟩
  · rw [Plant.testBegin_test]
  · rw [Plant.testBegin_test]
  case command =>
    rintro q s _ ht hq rfl
    rw [exec_startTest]
    refine ⟨fun h => ⟨?_, ?_⟩, fun h => ?_⟩
    · rw [State.plantCommand_accepted ht hq (Plant.startTest_of_mayStart h)]
    · rw [Plant.testBegin_test]
    · rw [State.plantCommand_refused ht hq (Plant.startTest_eq_none h)]

/-! ### The end of a test -/

theorem Test.runs_iff (t : Test) : t.runs = true ↔ t.outcome = .running := beq_iff_eq

theorem Plant.testEnd_of_not_running (e : Env) (o : TestOutcome) {p : Plant}
    (h : p.test.outcome ≠ .running) : p.testEnd e o = p :=
  if_neg (mt (Test.runs_iff _).mp h)

/-- A running test's end: its record closed, TEST_FAILED handed, and then FLOAT (06 R123). -/
theorem Plant.testEnd_of_running (e : Env) (o : TestOutcome) {p : Plant}
    (h : p.test.outcome = .running) :
    p.testEnd e o = (({ p with test := { p.test with
      duration := .stopped, seconds := (e.now - p.test.started) / 1000, outcome := o
      failed := p.test.failed || o == .failed } } : Plant).setCond e 17
        (p.test.failed || o == .failed)).changePlant e .float := by
  have hruns := (Test.runs_iff _).mpr h
  simp only [Plant.testEnd, Test.finish, Test.secondsRun, if_pos hruns]

theorem Plant.testSource_eq (e : Env) (p : Plant) :
    p.testSource e = if p.charge.source = .mains then p else p.testEnd e .abortedMains := by
  simp only [Plant.testSource, beq_iff_eq]

theorem Plant.testRun_eq (e : Env) (p : Plant) :
    p.testRun e = if p.gen.run = .off then p else p.testEnd e .abortedGenerator := by
  simp only [Plant.testRun, beq_iff_eq]

/-- A valid bus voltage in a running test: the minimum and the threshold are kept, and the test fails at the
threshold or below (06 R120, R121). -/
theorem Plant.testVoltage_of_running (e : Env) {p : Plant} {v : Nat}
    (hv : p.battery.busVoltage = some v) (h : p.test.outcome = .running) :
    p.testVoltage e =
      let u : Plant := { p with test := { p.test with
        minBus := some (min (p.test.minBus.getD v) v), threshold := e.tables.profile.failThreshold } }
      if v ≤ e.tables.profile.failThreshold then u.testEnd e .failed else u := by
  have hruns := (Test.runs_iff _).mpr h
  cases hm : p.test.minBus <;> simp [Plant.testVoltage, hruns, hv, hm]

theorem Plant.testVoltage_eq_self (e : Env) {p : Plant}
    (h : p.battery.busVoltage = none ∨ p.test.outcome ≠ .running) : p.testVoltage e = p := by
  rcases h with h | h
  · simp [Plant.testVoltage, h]
  · simp [Plant.testVoltage, Test.runs, h]

theorem Plant.testCharge_eq (d : Int) (p : Plant) :
    p.testCharge d = if p.test.outcome = .running then
      { p with test := { p.test with removed := p.test.removed + d } } else p := by
  simp only [Plant.testCharge, Test.runs_iff]

/-- A pending test begins where its start conditions hold (06 R118). -/
theorem Plant.scheduledTest_begins {e : Env} {p : Plant} (hp : p.test.pending = true)
    (h : p.testMayStart e = true) : p.scheduledTest e = p.testBegin e .schedule := by
  simp [Plant.scheduledTest, hp, h]

theorem Plant.scheduledTest_eq_self {e : Env} {p : Plant}
    (h : p.test.pending = false ∨ p.testMayStart e = false) : p.scheduledTest e = p := by
  rcases h with h | h <;> simp [Plant.scheduledTest, h]

/-! ### A change of load-disconnect state -/

/-- What is handed on at a change of load-disconnect state to `s`, the LD output having been `ld` (06 R129,
R130; log entry 65). -/
def ldReaders (ld : Bool) (s : LdState) : List Signal :=
  (if ld = decide (s = .disconnected) then [] else [.ldCompare]) ++ [.testConds] ++
    (if s = .disconnected then [.testAbort .abortedAlarm] else []) ++ [.ldExam]

/-- A change of load-disconnect state changes the unit's record, the LD output and the agenda alone. -/
theorem Plant.enterLd_eq (e : Env) (s : LdState) (p : Plant) :
    p.enterLd e s = ({ p with
      ld := { p.ld with
        state := s
        disconnect := if s = .disconnectPending then
          .running e.now (sec e.tables.loadDisconnect.disconnectDelay) else .stopped
        reconnect := if s = .reconnectPending then
          .running e.now (sec e.tables.loadDisconnect.reconnectDelay) else .stopped }
      outputs := { p.outputs with ld := decide (s = .disconnected) } } : Plant).post (ldReaders p.outputs.ld s) := by
  have hout : (s == LdState.disconnected) = decide (s = .disconnected) := rfl
  simp [Plant.enterLd, Plant.postIf_eq, Plant.post, ldReaders, hout]

theorem ldReaders_disconnected (ld : Bool) :
    ldReaders ld .disconnected =
      if ld then [.testConds, .testAbort .abortedAlarm, .ldExam]
      else [.ldCompare, .testConds, .testAbort .abortedAlarm, .ldExam] := by
  cases ld <;> rfl

theorem ldReaders_connected (ld : Bool) :
    ldReaders ld .connected =
      if ld then [.ldCompare, .testConds, .ldExam] else [.testConds, .ldExam] := by
  cases ld <;> rfl

/-! ### Expiries -/

/-- A timer that runs expires at its end, and its block acts. -/
theorem State.expire_of_fire {id : TimerId} {s : State} {start length : Nat} {p : Plant}
    (h : s.plant.timer id = .running start length)
    (hp : (s.bringTo (start + length)).plant.fire (s.bringTo (start + length)).env id = p) :
    s.expire id = ((s.bringTo (start + length)).withPlant p).finish := by
  subst hp
  simp only [State.expire, h]
  rfl

theorem Plant.fire_testDuration (e : Env) {p : Plant} (h : p.test.outcome = .running) :
    p.fire e .testDuration = (({ p with test := { p.test with
      duration := .stopped, seconds := (e.now - p.test.started) / 1000
      outcome := .passed } } : Plant).setCond e 17 p.test.failed).changePlant e .float := by
  have hend := Plant.testEnd_of_running e .passed (p := p.setTimer .stopped .testDuration) h
  have hfailed : (p.test.failed || TestOutcome.passed == TestOutcome.failed) = p.test.failed := Bool.or_false _
  simp only [Plant.setTimer, hfailed] at hend
  exact hend

/-- The disconnect delay ends: the LD output is set, whatever it was (06 R127, R129). -/
theorem Plant.fire_disconnect (e : Env) {p : Plant} (h : p.ld.state = .disconnectPending) :
    p.fire e .disconnect = ({ p with
      ld := { p.ld with state := .disconnected, disconnect := .stopped, reconnect := .stopped }
      outputs := { p.outputs with ld := true } } : Plant).post
        (if p.outputs.ld then [.testConds, .testAbort .abortedAlarm, .ldExam]
          else [.ldCompare, .testConds, .testAbort .abortedAlarm, .ldExam]) := by
  simp [Plant.fire, Plant.setTimer, Plant.disconnectExpired, h, Plant.enterLd_eq, ldReaders_disconnected]

/-- The reconnect delay ends: the LD output is cleared, whatever it was (06 R128, R129). -/
theorem Plant.fire_reconnect (e : Env) {p : Plant} (h : p.ld.state = .reconnectPending) :
    p.fire e .reconnect = ({ p with
      ld := { p.ld with state := .connected, disconnect := .stopped, reconnect := .stopped }
      outputs := { p.outputs with ld := false } } : Plant).post
        (if p.outputs.ld then [.ldCompare, .testConds, .ldExam] else [.testConds, .ldExam]) := by
  simp [Plant.fire, Plant.setTimer, Plant.reconnectExpired, h, Plant.enterLd_eq, ldReaders_connected]

theorem Plant.fire_mismatch (e : Env) (p : Plant) :
    p.fire e .mismatch = ({ p with
      ld := { p.ld with mismatchTimer := .stopped, mismatch := true } } : Plant).post [.testConds] := rfl

/-! ### Timers that run under a condition -/

theorem Timer.startIfStopped_eq (now length : Nat) (t : Timer) :
    t.startIfStopped now length = if t = .stopped then .running now length else t := by
  cases t <;> simp [Timer.startIfStopped]

theorem Timer.while_true (now length : Nat) (t : Timer) :
    t.while now length true = if t = .stopped then .running now length else t :=
  Timer.startIfStopped_eq now length t

theorem Timer.while_false (now length : Nat) (t : Timer) : t.while now length false = .stopped := rfl

/-! ### Examinations of load disconnect -/

theorem Plant.ldExam_of_connected (e : Env) {p : Plant} (h : p.ld.state = .connected) :
    p.ldExam e = if p.voltageLow e || p.socLow e then p.enterLd e .disconnectPending else p := by
  simp only [Plant.ldExam, h]

theorem Plant.ldExam_of_disconnectPending (e : Env) {p : Plant} (h : p.ld.state = .disconnectPending) :
    p.ldExam e = if p.voltageLow e || p.socLow e then p else p.enterLd e .connected := by
  simp only [Plant.ldExam, h]

theorem Plant.ldExam_of_disconnected (e : Env) {p : Plant} (h : p.ld.state = .disconnected) :
    p.ldExam e = if p.mayReconnect e then p.enterLd e .reconnectPending else p := by
  simp only [Plant.ldExam, h]

/-- With the source back and the voltage above the condition, RECONNECT_PENDING is left by its delay alone,
which runs exactly while the reconnect condition is found (06 R128). -/
theorem Plant.ldExam_of_reconnectPending (e : Env) {p : Plant} (h : p.ld.state = .reconnectPending) :
    p.ldExam e =
      if p.charge.source = .none ∨ p.voltageLow e = true then p.enterLd e .disconnected
      else { p with ld := { p.ld with
        reconnect := p.ld.reconnect.while e.now (sec e.tables.loadDisconnect.reconnectDelay)
          (p.mayReconnect e) } } := by
  simp only [Plant.ldExam, h, Bool.or_eq_true, beq_iff_eq]

/-! ### The feedback and the conditions -/

/-- No LD_FEEDBACK input, or one that agrees with the LD output, ends the mismatch (06 R130). -/
theorem Plant.ldCompare_of_agree {e : Env} {p : Plant}
    (h : e.hasInput .ldFeedback = false ∨ e.inputLevel .ldFeedback = p.outputs.ld) :
    p.ldCompare e =
      ({ p with ld := { p.ld with mismatchTimer := .stopped, mismatch := false } } : Plant).post
        [.testConds] := by
  rcases h with h | h <;> simp [Plant.ldCompare, h]

/-- A feedback that differs from the LD output starts the mismatch timer unless it runs (06 R130). -/
theorem Plant.ldCompare_of_differ {e : Env} {p : Plant} (hi : e.hasInput .ldFeedback = true)
    (h : e.inputLevel .ldFeedback ≠ p.outputs.ld) :
    p.ldCompare e =
      ({ p with ld := { p.ld with
        mismatchTimer := if p.ld.mismatchTimer = .stopped then .running e.now 5000
          else p.ld.mismatchTimer } } : Plant).post [.testConds] := by
  simp [Plant.ldCompare, hi, h, Timer.startIfStopped_eq, sec]

/-- Settles O46: the expiries by what each timer's firing does, the examination by the load-disconnect state,
the ends of a test by their causes, then the comparison and the conditions. -/
theorem testAndDisconnectTimersExpire : Obligations.TestAndDisconnectTimersExpire := by
  refine ⟨?expiries, ?examination, ?ends, ?causes, ?reconnectPending, ?feedback, ?conditions⟩
  case expiries =>
    rintro s _ start length rfl
    exact ⟨
      fun h hr => congrArg Host.Outcome.next (State.expire_of_fire h (Plant.fire_testDuration _ hr)),
      fun h hs => congrArg Host.Outcome.next (State.expire_of_fire h (Plant.fire_disconnect _ hs)),
      fun h hs => congrArg Host.Outcome.next (State.expire_of_fire h (Plant.fire_reconnect _ hs)),
      fun h => congrArg Host.Outcome.next (State.expire_of_fire h (Plant.fire_mismatch _ _))⟩
  case examination =>
    rintro e p _ rfl
    rw [← Plant.voltageLow_iff, ← Plant.socLow_iff, ← Bool.or_eq_true]
    refine ⟨fun hs => ?_, fun hs => ?_, fun hs => ?_⟩
    · rw [Plant.ldExam_of_connected e hs]
      exact ⟨fun h => by rw [if_pos h, Plant.enterLd_eq]; exact ⟨rfl, rfl⟩, fun h => if_neg h⟩
    · rw [Plant.ldExam_of_disconnectPending e hs]
      exact ⟨fun h => if_pos h, fun h => by rw [if_neg h, Plant.enterLd_eq]; rfl⟩
    · rintro _ rfl
      rw [← Plant.mayReconnect_iff, Plant.ldExam_of_disconnected e hs]
      exact ⟨fun h => by rw [if_pos h, Plant.enterLd_eq]; exact ⟨rfl, rfl, rfl⟩, fun h => if_neg h⟩
  case ends =>
    refine fun e o p => ⟨Plant.testEnd_of_not_running e o, ?_⟩
    rintro h _ rfl
    exact Plant.testEnd_of_running e o h
  case causes =>
    refine fun e p => ⟨Plant.testSource_eq e p, Plant.testRun_eq e p, ?_, Plant.testVoltage_eq_self e,
      fun d => Plant.testCharge_eq d p⟩
    rintro v hv hr _ rfl
    exact ⟨fun h => (Plant.testVoltage_of_running e hv hr).trans (if_pos h),
      fun h => (Plant.testVoltage_of_running e hv hr).trans (if_neg (Nat.not_le.mpr h))⟩
  case reconnectPending =>
    rintro e p _ _ hs rfl rfl
    rw [← Plant.voltageLow_iff]
    have hexam : p.handle e .ldExam = _ := Plant.ldExam_of_reconnectPending e hs
    refine ⟨fun hlow => ?_, fun hlow hmay => ?_, fun hlow hmay => ?_⟩
    · rw [hexam, if_pos hlow, Plant.enterLd_eq]
      exact ⟨rfl, rfl⟩
    · have hr : p.mayReconnect e = true :=
        (Plant.mayReconnect_iff_of_source e fun h => hlow (.inl h)).mpr hmay
      rw [hexam, if_neg hlow, hr, Timer.while_true]
    · have hr : p.mayReconnect e = false :=
        Bool.eq_false_iff.mpr (mt (Plant.mayReconnect_iff_of_source e fun h => hlow (.inl h)).mp hmay)
      rw [hexam, if_neg hlow, hr, Timer.while_false]
  case feedback =>
    rintro e p _ rfl
    exact ⟨Plant.ldCompare_of_agree, Plant.ldCompare_of_differ⟩
  case conditions =>
    exact fun e p => ⟨rfl, Plant.scheduledTest_begins, Plant.scheduledTest_eq_self⟩

end Sys2Proof.Machine.BatteryTest
end
